-- ==== Sys2Proof/Word.lean ====
section
/-! DEFINITION. The word types of the CORE and the two readings of a bit vector as an integer.
Rules R5 and R6 of spec/00_scope.md: the data width W is 32 bits, the product width WW is 64 bits,
"signed" means two's complement, bit 0 is the least significant bit. -/

namespace Sys2Proof

/-- A 32-bit datapath word (R5, parameter W). -/
abbrev Word := BitVec 32

/-- A 64-bit product (R5, parameter WW; R35). It lives inside one micro-operation only (R22). -/
abbrev DWord := BitVec 64

/-- `sint(v)` of R6: the two's complement value. -/
abbrev sint {n : Nat} (v : BitVec n) : Int := v.toInt

/-- `uint(v)` of R6: the unsigned value. -/
abbrev uint {n : Nat} (v : BitVec n) : Nat := v.toNat

end Sys2Proof
end

