-- ==== Sys2Proof/Config.lean ====
section
/-! DEFINITION. The free values: what the spec gives an effect but no value for. Every constant here is opaque
and has no body, so no proof can see a value of it. The CORE has no parameter that changes its function
(spec/00_scope.md R5); its hardwired constants stand in Sys2Proof/Machine/Constants.lean. -/

namespace Sys2Proof.Config

/-- IN after the n-th RESET: "unspecified" (spec/10_state.md R24, spec/46_host_interface.md R89).
Free value, log entry 4. -/
opaque freeIn (n : Nat) : Word

/-- NUM after the n-th RESET (R24, R89). Free value, log entry 4. -/
opaque freeNum (n : Nat) : Word

/-- LZ after the n-th RESET (R24, R89). Free value, log entry 4. -/
opaque freeLz (n : Nat) : BitVec 6

/-- SB after the n-th RESET (R24, R89). Free value, log entry 4. -/
opaque freeSb (n : Nat) : BitVec 5

/-- HALF after the n-th RESET (R24, R89). Free value, log entry 4. -/
opaque freeHalf (n : Nat) : Word

/-- TEMP after the n-th RESET (R24, R89). Free value, log entry 4. -/
opaque freeTemp (n : Nat) : Word

/-- VAR1 after the n-th RESET (R24, R89). Free value, log entry 4. -/
opaque freeVar1 (n : Nat) : Word

/-- `i2f` of an operand outside `2^29 <= n < 2^31`, for which spec/42_seed.md R58 defines no result
(93_implementation_defined.md U6). Free value, a function of the operand, log entry 5. -/
opaque freeI2f (v : Word) : Word

/-- `f2q` of a pattern that is not positive with biased exponent 120 to 127, for which spec/42_seed.md R60
defines no result (93_implementation_defined.md U6). Free value, a function of the pattern, log entry 6. -/
opaque freeF2q (b : Word) : Word

/-- SB after NORM where LZ is not 1 to 31: spec/41_clz_normalize.md R53 "gives them no meaning"
(93_implementation_defined.md U7). Free value, a function of LZ and NUM, log entry 7. -/
opaque freeNormSb (lz : BitVec 6) (num : Word) : BitVec 5

/-- NUM after NORM where LZ is not 1 to 31 (R53, U7). Free value, a function of LZ and NUM, log entry 7. -/
opaque freeNormNum (lz : BitVec 6) (num : Word) : Word

end Sys2Proof.Config
end

