-- ==== Sys2Proof/Syntax.lean ====
section
/-! DEFINITION. The instructions of the CORE: one constructor per row of spec/opcode_table.json. They are the
twelve micro-operations of the sequencer and the reserved codes (spec/30_encoding.md R38, R42) and the three
host transactions (spec/46_host_interface.md R86, R88, R89). A micro-operation has no operand field (R43). -/

namespace Sys2Proof

/-- One constructor per row of spec/opcode_table.json. -/
inductive Instr where
  /-- IDLE, stage code 0 (R47). -/
  | idle
  /-- CHECK, stage code 1 (R48). -/
  | check
  /-- CLZ, stage code 2 (R52). -/
  | clz
  /-- NORM, stage code 3 (R53). -/
  | norm
  /-- HALF, stage code 4 (R55). -/
  | half
  /-- SEED, stage code 5 (R57). -/
  | seed
  /-- NR1, stage code 6 (R63). -/
  | nr1
  /-- NR2, stage code 7 (R64). -/
  | nr2
  /-- NR3, stage code 8 (R65). -/
  | nr3
  /-- RECON, stage code 9 (R68). -/
  | recon
  /-- DESCALE, stage code 10 (R69). -/
  | descale
  /-- WB, stage code 11 (R70). -/
  | wb
  /-- The reserved stage codes `11xx`, 12 to 15 (R42); `x` is the code's low two bits. -/
  | reserved (x : BitVec 2)
  /-- START, format H: `d` is the word on `op_data`, every pattern valid (R40, R86). -/
  | start (d : Word)
  /-- SAMPLE: the host looks at the output ports (R88). -/
  | sample
  /-- RESET: the port `rst` is asserted (R89). -/
  | reset
  deriving DecidableEq, Repr

/-- The form in which an instruction reaches the CORE in one step. -/
inductive Encoding where
  /-- Format U: the four bits in STAGE are the whole encoding (R38, R39). -/
  | stage (code : BitVec 4)
  /-- Format H: the 32-bit word on `op_data` in a START (R40). -/
  | operand (word : Word)
  /-- The one-bit port `rst`, asserted; it carries no data (R40, R89). -/
  | rst
  /-- SAMPLE has no encoding: the host looks at the outputs (R88). -/
  | look
  deriving DecidableEq, Repr

end Sys2Proof
end

