-- ==== Sys2Proof/Decode.lean ====
section
/-! DEFINITION. The decoder and the encoder. The CORE fetches no instruction words from a memory (R1, R32): a
micro-operation's code is what STAGE holds (spec/30_encoding.md R38, R39), a START's word is what op_data holds
(R40), RESET is the asserted port rst and SAMPLE has no encoding (spec/46_host_interface.md R88, R89). -/

namespace Sys2Proof

/-! The stage codes of R38. -/

/-- Stage code of IDLE. -/
abbrev codeIdle : BitVec 4 := 0b0000#4
/-- Stage code of CHECK. -/
abbrev codeCheck : BitVec 4 := 0b0001#4
/-- Stage code of CLZ. -/
abbrev codeClz : BitVec 4 := 0b0010#4
/-- Stage code of NORM. -/
abbrev codeNorm : BitVec 4 := 0b0011#4
/-- Stage code of HALF. -/
abbrev codeHalf : BitVec 4 := 0b0100#4
/-- Stage code of SEED. -/
abbrev codeSeed : BitVec 4 := 0b0101#4
/-- Stage code of NR1. -/
abbrev codeNr1 : BitVec 4 := 0b0110#4
/-- Stage code of NR2. -/
abbrev codeNr2 : BitVec 4 := 0b0111#4
/-- Stage code of NR3. -/
abbrev codeNr3 : BitVec 4 := 0b1000#4
/-- Stage code of RECON. -/
abbrev codeRecon : BitVec 4 := 0b1001#4
/-- Stage code of DESCALE. -/
abbrev codeDescale : BitVec 4 := 0b1010#4
/-- Stage code of WB. -/
abbrev codeWb : BitVec 4 := 0b1011#4

/-- "Decoding is the identity on STAGE: the stage whose code equals uint(STAGE) executes" (R39); the codes 12 to
15 name no stage (R42). -/
def decodeStage (c : BitVec 4) : Instr :=
  match c.toNat with
  | 0 => .idle
  | 1 => .check
  | 2 => .clz
  | 3 => .norm
  | 4 => .half
  | 5 => .seed
  | 6 => .nr1
  | 7 => .nr2
  | 8 => .nr3
  | 9 => .recon
  | 10 => .descale
  | 11 => .wb
  | _ => .reserved (c.setWidth 2)

/-- The decoder, total on every form that reaches the CORE. -/
def decode : Encoding → Instr
  | .stage c => decodeStage c
  | .operand w => .start w
  | .rst => .reset
  | .look => .sample

/-- The encoder, from the tables of R38, R40 and the sections "Encoding" of R88 and R89. -/
def encode : Instr → Encoding
  | .idle => .stage codeIdle
  | .check => .stage codeCheck
  | .clz => .stage codeClz
  | .norm => .stage codeNorm
  | .half => .stage codeHalf
  | .seed => .stage codeSeed
  | .nr1 => .stage codeNr1
  | .nr2 => .stage codeNr2
  | .nr3 => .stage codeNr3
  | .recon => .stage codeRecon
  | .descale => .stage codeDescale
  | .wb => .stage codeWb
  | .reserved x => .stage (0b11#2 ++ x)
  | .start d => .operand d
  | .sample => .look
  | .reset => .rst

/-! Instruction words as numbers. The spec has no byte stream (R27); a row's bits are read as one number, bit 0
least significant. The width tells the format: 4 bits (8 in whole bytes) are format U, 32 bits are format H,
one bit is the port rst, no bits are SAMPLE. Log entry 13. -/

/-- Why a number of a given width is no instruction word. -/
inductive DecodeError where
  /-- No format of the spec has this width (R39, R40, R44). -/
  | noSuchWidth (nbits : Nat)
  /-- A format U code is exactly 4 bits (R39). -/
  | stageCodeTooWide (w : Nat)
  /-- A format H word is exactly 32 bits (R40). -/
  | operandTooWide (w : Nat)
  /-- The port rst is RESET only when it is asserted, that is 1 (R89). -/
  | rstNotAsserted (w : Nat)
  /-- SAMPLE carries no bits (R88). -/
  | sampleCarriesBits (w : Nat)
  deriving DecidableEq, Repr

/-- Read `w`, a number of `nbits` bits, as one of the forms that reach the CORE; reject by name what is none. -/
def Encoding.ofBits (nbits w : Nat) : Except DecodeError Encoding :=
  if nbits = 4 ∨ nbits = 8 then
    if w < 2 ^ 4 then .ok (.stage (BitVec.ofNat 4 w)) else .error (.stageCodeTooWide w)
  else if nbits = 32 then
    if w < 2 ^ 32 then .ok (.operand (BitVec.ofNat 32 w)) else .error (.operandTooWide w)
  else if nbits = 1 then
    if w = 1 then .ok .rst else .error (.rstNotAsserted w)
  else if nbits = 0 then
    if w = 0 then .ok .look else .error (.sampleCarriesBits w)
  else .error (.noSuchWidth nbits)

/-- How many bits an encoding has (the table's "width"; the port rst has one bit, R40). -/
def Encoding.width : Encoding → Nat
  | .stage _ => 4
  | .operand _ => 32
  | .rst => 1
  | .look => 0

/-- The bits of an encoding as a number, bit 0 least significant. -/
def Encoding.bits : Encoding → Nat
  | .stage c => c.toNat
  | .operand w => w.toNat
  | .rst => 1
  | .look => 0

/-- The decoder on numbers: the form, then the instruction; total, rejecting by name. -/
def decodeBits (nbits w : Nat) : Except DecodeError Instr :=
  match Encoding.ofBits nbits w with
  | .ok e => .ok (decode e)
  | .error r => .error r

/-- The instruction of a table row's word (spec/opcode_table.json), none where the decoder rejects it. -/
def decodeTableWord (nbits w : Nat) : Option Instr :=
  match decodeBits nbits w with
  | .ok i => some i
  | .error _ => none

end Sys2Proof
end

