-- ==== Sys2Proof/Machine/Constants.lean ====
section
/-! DEFINITION. The hardwired constants of the datapath (spec/30_encoding.md R41, spec/00_scope.md R5). They are
not state (R22) and not configurable (R5). -/

namespace Sys2Proof.Machine

/-- MAGIC, the constant of the fast inverse-square-root transform (R41, R59). -/
abbrev magicConst : Word := 0x5F3759DF#32

/-- C, which is 1.5 at Q29 (R41, R62). -/
abbrev newtonC : Word := 0x30000000#32

/-- The right shift of every 64-bit product (R41). -/
abbrev productShift : Nat := 31

/-- The left shift that ends a Newton-Raphson update (R41). -/
abbrev iterationShift : Nat := 2

/-- The left shift of RECON (R41). -/
abbrev reconShift : Nat := 1

/-- The right shift of HALF (R41). -/
abbrev halfShift : Nat := 1

/-- The result of an operation on an illegal operand (R41, R94). -/
abbrev errorResult : Word := 0x00000000#32

/-- The status code of Success (R37). -/
abbrev statusSuccess : BitVec 1 := 0#1

/-- The status code of ArgumentError (R37). -/
abbrev statusArgumentError : BitVec 1 := 1#1

end Sys2Proof.Machine
end

