-- ==== Sys2Proof/Machine/Arith.lean ====
section
/-! DEFINITION. The arithmetic primitives of spec/00_scope.md R7 and the leading-zero counter of
spec/41_clz_normalize.md R51. Shift amounts satisfy `0 <= k < N` wherever a meaning uses them (R7). -/

namespace Sys2Proof.Machine

/-- `wrap_N(z)` of R6. -/
def wrap (n : Nat) (z : Int) : BitVec n := BitVec.ofInt n z

/-- `add32` of R7. No micro-operation uses it. -/
def add32 (a b : Word) : Word := wrap 32 (sint a + sint b)

/-- `sub32` of R7: wraps modulo 2^32 (D15). -/
def sub32 (a b : Word) : Word := wrap 32 (sint a - sint b)

/-- `mul64` of R7: the exact signed product, which never wraps. -/
def mul64 (a b : Word) : DWord := wrap 64 (sint a * sint b)

/-- `asr_N` of R7, the arithmetic right shift: the floor of the signed value divided by 2^k. -/
def asr {n : Nat} (v : BitVec n) (k : Nat) : BitVec n := wrap n (sint v / 2 ^ k)

/-- `lsr_N` of R7, the logical right shift. -/
def lsr {n : Nat} (v : BitVec n) (k : Nat) : BitVec n := BitVec.ofNat n (uint v / 2 ^ k)

/-- `shl_N` of R7, the left shift; bits shifted out of the top are dropped (D14). -/
def shl {n : Nat} (v : BitVec n) (k : Nat) : BitVec n := BitVec.ofNat n (uint v * 2 ^ k)

/-- `narrow32` of R7: the low 32 bits (D13). -/
def narrow32 (w : DWord) : Word := w.extractLsb' 0 32

/-- The zero bits of `v` at the indexes n-1, n-2, ... down to the first one bit. -/
def zerosBelow (v : Word) : Nat → Nat
  | 0 => 0
  | n + 1 => if v.getLsbD n then 0 else zerosBelow v n + 1

/-- `clz32` of R51: the number of most-significant zero bits before the first set bit; 32 for the zero word (D10). -/
def clz32 (v : Word) : Nat := zerosBelow v 32

/-- The product of two words shifted right by 31 and narrowed, the step every multiplication of the datapath ends
with (R62, R68): "each product is formed at 64 bits, shifted right arithmetically by 31, narrowed". -/
def mulShift31 (a b : Word) : Word := narrow32 (asr (mul64 a b) productShift)

end Sys2Proof.Machine
end

