-- ==== Sys2Proof/Machine/Operands.lean ====
section
/-! DEFINITION. The operand selections. No micro-operation has an operand field or an immediate (spec/30_encoding.md
R43): the registers each stage reads are fixed, and the only data-dependent selections are the sign and zero test
of CHECK and the shift amounts of NORM and DESCALE. -/

namespace Sys2Proof.Machine

/-- The operand is legal: strictly positive as a signed word (R33, R48). -/
abbrev legalOperand (w : Word) : Prop := 0 < sint w

/-- `sh` of R53: the even left shift of NORM for `signBits` sb. -/
def normShift (sb : Nat) : Nat := if sb % 2 = 0 then sb else sb - 1

/-- `k` of R69: the right shift of DESCALE for `signBits` sb, half of NORM's shift (R56). -/
def descaleShift (sb : Nat) : Nat := if sb % 2 = 0 then sb / 2 else (sb - 1) / 2

/-- NUM is a normalised number (spec/41_clz_normalize.md R54(d)): the domain of `i2f` (R58). -/
abbrev normalised (v : Word) : Prop := 2 ^ 29 ≤ sint v ∧ sint v < 2 ^ 31

end Sys2Proof.Machine
end

