-- ==== Sys2Proof/Machine/State.lean ====
section
/-! DEFINITION. The state of the machine: the eleven registers of spec/10_state.md R8, which are the complete
state of the CORE, and three fields of the model's own (R8 allows "whatever bookkeeping the model adds for
itself"): what the host does to the ports, what the host has read from them, and a counter for free values. -/

namespace Sys2Proof.Machine

/-- The three input ports (spec/20_memory.md R26, spec/46_host_interface.md R85), level signals. -/
structure InPorts where
  /-- Reset request, 1 bit. -/
  rst : BitVec 1
  /-- The host presents an operand on op_data, 1 bit. -/
  opValid : BitVec 1
  /-- The Q31 operand, 32 bits. -/
  opData : Word
  deriving DecidableEq, Repr

/-- What the host does in one step of the machine (R49(b), R90). -/
inductive HostAct where
  /-- The levels the host drives on the input ports while the CORE takes its next step. -/
  | drive (p : InPorts)
  /-- The host looks at the output ports (SAMPLE, R88). -/
  | sample
  deriving DecidableEq, Repr

/-- What SAMPLE returns (R88). -/
structure Sample where
  /-- The port res_valid. -/
  resValid : BitVec 1
  /-- The port res_data. -/
  resData : Word
  /-- The port res_status. -/
  resStatus : BitVec 1
  /-- The port busy. -/
  busy : BitVec 1
  deriving DecidableEq, Repr

/-- The eleven registers of R8 (IN to STAGE) and the model's own bookkeeping. -/
structure State where
  /-- IN, the operand register, Q31 (R9). -/
  inReg : Word
  /-- NUM, the document's `number` (R10). -/
  num : Word
  /-- LZ, the output register of the leading-zero counter (R11). -/
  lz : BitVec 6
  /-- SB, the document's `signBits` (R12). -/
  sb : BitVec 5
  /-- HALF, the document's `half` (R13). -/
  half : Word
  /-- TEMP, the document's `temp` (R14). -/
  temp : Word
  /-- VAR1, the document's `var1` (R15). -/
  var1 : Word
  /-- OUT, the Q31 result register, port res_data (R16). -/
  out : Word
  /-- ERR, the status flag, 0 Success and 1 ArgumentError, port res_status (R17, R37). -/
  err : BitVec 1
  /-- VALID, the result-valid flag, port res_valid (R18). -/
  valid : BitVec 1
  /-- STAGE, the stage register, the CORE's program counter (R19). -/
  stage : BitVec 4
  /-- The model's own: how many RESETs have drawn free values (log entry 4). -/
  resets : Nat
  /-- The model's own: what the host does in the coming steps; when it is empty the ports are quiet (log entry 1). -/
  host : List HostAct
  /-- The model's own: what SAMPLE has returned to the host, newest first (log entry 2). -/
  samples : List Sample
  deriving DecidableEq, Repr

/-- The machine right after reset (spec/10_state.md R24, spec/70_reset_and_hazards.md R102): STAGE = IDLE,
VALID = 0, ERR = 0, OUT = 0x00000000. The seven internal registers are "unspecified" there; the model names the
value zero for them (DESIGN CHOICE, log entry 3). The model's own fields are empty (log entries 1, 2, 4). -/
def State.reset : State where
  inReg := 0#32
  num := 0#32
  lz := 0#6
  sb := 0#5
  half := 0#32
  temp := 0#32
  var1 := 0#32
  out := 0x00000000#32
  err := 0#1
  valid := 0#1
  stage := 0b0000#4
  resets := 0
  host := []
  samples := []

/-- The faults of the model. -/
inductive Fault where
  /-- STAGE holds a reserved code 12 to 15, whose low two bits are `x`: "a model gives them no meaning: if its
  state ever holds one, that is a fault of the model (stuck)" (R42). Raised by execReserved only. Safe: the machine
  stops, and no state that a run reaches holds such a code. -/
  | stuckReservedStage (x : BitVec 2)
  deriving DecidableEq, Repr

/-- The refusals of the model. -/
inductive Refusal where
  /-- An instruction that has no meaning yet, by its mnemonic. Raised by no arm of exec: every instruction has its
  meaning. Safe. -/
  | notModelled (mnemonic : String)
  deriving DecidableEq, Repr

/-- The three outcomes of a step of this machine. -/
abbrev Result := Host.Outcome State Fault Refusal

end Sys2Proof.Machine
end

