-- ==== Sys2Proof/Machine/Ops.lean ====
section
/-! DEFINITION. The named operations over the registers: one write each, moving STAGE, and the CORE's one
exceptional condition, ArgumentError (spec/60_exceptions.md R93, R94). There is no memory (spec/20_memory.md R25),
no trap entry and no trap return (R98, R99), so there are no operations for them. -/

namespace Sys2Proof.Machine

/-- `pc <- c` (R7, R19). -/
def State.goto (s : State) (c : BitVec 4) : State := { s with stage := c }

/-- `x[IN] <- v`. -/
def State.setIn (s : State) (v : Word) : State := { s with inReg := v }

/-- `x[NUM] <- v`. -/
def State.setNum (s : State) (v : Word) : State := { s with num := v }

/-- `x[LZ] <- v`. -/
def State.setLz (s : State) (v : BitVec 6) : State := { s with lz := v }

/-- `x[SB] <- v`. -/
def State.setSb (s : State) (v : BitVec 5) : State := { s with sb := v }

/-- `x[HALF] <- v`. -/
def State.setHalf (s : State) (v : Word) : State := { s with half := v }

/-- `x[TEMP] <- v`. -/
def State.setTemp (s : State) (v : Word) : State := { s with temp := v }

/-- `x[VAR1] <- v`. -/
def State.setVar1 (s : State) (v : Word) : State := { s with var1 := v }

/-- `x[VALID] <- v`. -/
def State.setValid (s : State) (v : BitVec 1) : State := { s with valid := v }

/-- OUT, ERR and VALID are written together, in one step (spec/20_memory.md R29(b)); this is the write that ends an
operation (R50), so VALID becomes 1 and STAGE becomes IDLE. -/
def State.publish (s : State) (out : Word) (err : BitVec 1) : State :=
  { s with out := out, err := err, valid := 1#1, stage := codeIdle }

/-- `raise ArgumentError` (R94): OUT 0x00000000, ERR 1, VALID 1, STAGE IDLE; no trap, nothing saved (R98). -/
def State.raiseArgumentError (s : State) : State := s.publish errorResult statusArgumentError

/-- The seven internal registers "become unspecified" (R89): free values, drawn with the counter (log entry 4). -/
def State.forgetInternals (s : State) : State :=
  { s with
    inReg := Config.freeIn s.resets
    num := Config.freeNum s.resets
    lz := Config.freeLz s.resets
    sb := Config.freeSb s.resets
    half := Config.freeHalf s.resets
    temp := Config.freeTemp s.resets
    var1 := Config.freeVar1 s.resets
    resets := s.resets + 1 }

/-- The host takes note of what SAMPLE returned (log entry 2). -/
def State.note (s : State) (o : Sample) : State := { s with samples := o :: s.samples }

end Sys2Proof.Machine
end

