-- ==== Sys2Proof/Machine/Flags.lean ====
section
/-! DEFINITION. The signals that are functions of the state (spec/10_state.md R20) and what the host sees of it
(spec/46_host_interface.md R85, R88). The flags ERR and VALID are written by State.publish, State.setValid and
RESET only (R17, R18); no micro-operation computes any other flag (spec/60_exceptions.md R95). -/

namespace Sys2Proof.Machine

/-- `op_ready = (STAGE == IDLE)` (R20, R85). -/
def State.opReady (s : State) : BitVec 1 := if s.stage = codeIdle then 1#1 else 0#1

/-- `busy = (STAGE != IDLE)` (R20, R85). -/
def State.busy (s : State) : BitVec 1 := if s.stage = codeIdle then 0#1 else 1#1

/-- What SAMPLE returns: `(res_valid, res_data, res_status, busy)` (R88). -/
def State.view (s : State) : Sample :=
  { resValid := s.valid, resData := s.out, resStatus := s.err, busy := s.busy }

end Sys2Proof.Machine
end

