-- ==== Sys2Proof/Machine/HostPort.lean ====
section
/-! DEFINITION. The host transactions START, SAMPLE and RESET (spec/46_host_interface.md R86 to R89). -/

namespace Sys2Proof.Machine

/-- START (R86): accepted only in IDLE; IN, VALID and STAGE are written together, OUT and ERR keep the previous
result. While the CORE is busy the operand is ignored and the state is undisturbed (R87). -/
def execStart (d : Word) (s : State) : Result :=
  if s.stage = codeIdle then .next (((s.setIn d).setValid 0#1).goto codeCheck)
  else .next s

/-- SAMPLE (R88): no register is written; the host notes what the output ports show (log entry 2). -/
def execSample (s : State) : Result := .next (s.note s.view)

/-- RESET (R89): in any stage; STAGE, VALID, ERR and OUT take their reset values and the seven internal registers
become unspecified (log entry 4). -/
def execReset (s : State) : Result :=
  .next { s.forgetInternals with out := 0x00000000#32, err := 0#1, valid := 0#1, stage := codeIdle }

end Sys2Proof.Machine
end

