-- ==== Sys2Proof/Machine/Newton.lean ====
section
/-! DEFINITION. The Newton-Raphson update and the micro-operations NR1, NR2 and NR3
(spec/43_newton_raphson.md R62 to R65). -/

namespace Sys2Proof.Machine

/-- The wire `t1` of R62. -/
def nrT1 (v : Word) : Word := mulShift31 v v

/-- The wire `t2` of R62. -/
def nrT2 (v hf : Word) : Word := mulShift31 (nrT1 v) hf

/-- The wire `t3` of R62. -/
def nrT3 (v hf : Word) : Word := sub32 newtonC (nrT2 v hf)

/-- The wire `t4` of R62. -/
def nrT4 (v hf : Word) : Word := mulShift31 v (nrT3 v hf)

/-- `nr` of R62: one update of the estimate `v` with the half term `hf`. -/
def nr (v hf : Word) : Word := shl (nrT4 v hf) iterationShift

/-- VAR1 is updated with HALF and the sequencer goes to `c`: what NR1, NR2 and NR3 share (R64: NR2 "differs from
NR1 only in its code and its successor"). -/
def newtonUpdate (s : State) (c : BitVec 4) : State := (s.setVar1 (nr s.var1 s.half)).goto c

/-- NR1 (R63). -/
def execNr1 (s : State) : Result := .next (newtonUpdate s codeNr2)

/-- NR2 (R64). -/
def execNr2 (s : State) : Result := .next (newtonUpdate s codeNr3)

/-- NR3 (R65): no fourth iteration follows. -/
def execNr3 (s : State) : Result := .next (newtonUpdate s codeRecon)

end Sys2Proof.Machine
end

