-- ==== Sys2Proof/Machine/Normalize.lean ====
section
/-! DEFINITION. The micro-operations CLZ, NORM and HALF (spec/41_clz_normalize.md R52, R53, R55). -/

namespace Sys2Proof.Machine

/-- CLZ (R52): LZ is the leading-zero count of NUM, a 6-bit result. -/
def execClz (s : State) : Result :=
  .next ((s.setLz (BitVec.ofNat 6 (clz32 s.num))).goto codeNorm)

/-- LZ holds a count that occurs in an operation (R11, R52); for 0 and 32 R53 gives NORM no meaning. -/
abbrev normDomain (lz : BitVec 6) : Prop := 1 ≤ uint lz ∧ uint lz ≤ 31

/-- SB after NORM: `wrap_5(uint(LZ) - 1)` (R53); a free value where R53 gives none (log entry 7). -/
def normSb (lz : BitVec 6) (num : Word) : BitVec 5 :=
  if normDomain lz then BitVec.ofNat 5 (uint lz - 1) else Config.freeNormSb lz num

/-- NUM after NORM: shifted left by the even amount (R53); a free value where R53 gives none (log entry 7). -/
def normNum (lz : BitVec 6) (num : Word) : Word :=
  if normDomain lz then shl num (normShift (uint lz - 1)) else Config.freeNormNum lz num

/-- NORM (R53): both results are computed from the LZ and NUM before the step (R7). -/
def execNorm (s : State) : Result :=
  .next (((s.setSb (normSb s.lz s.num)).setNum (normNum s.lz s.num)).goto codeHalf)

/-- HALF (R55): HALF is NUM shifted right by one, TEMP is NUM. -/
def execHalf (s : State) : Result :=
  .next (((s.setHalf (asr s.num halfShift)).setTemp s.num).goto codeSeed)

end Sys2Proof.Machine
end

