-- ==== Sys2Proof/Machine/Seed.lean ====
section
/-! DEFINITION. The micro-operation SEED and its functions `i2f`, `magic` and `f2q` on integers
(spec/42_seed.md R57 to R60); the binary32 layout is spec/30_encoding.md R36. -/

namespace Sys2Proof.Machine

/-- The binary32 pattern with sign 0, biased exponent `e` and significand `m`, `2^23 <= m < 2^24` (R36, last line
of R58). -/
def packBinary32 (e m : Nat) : Word := 0#1 ++ BitVec.ofNat 8 e ++ BitVec.ofNat 23 (m - 2 ^ 23)

/-- The index of the most significant 1 bit of a normalised number (`p` of R58). -/
def topBit (n : Nat) : Nat := if 2 ^ 30 ≤ n then 30 else 29

/-- The significand of `n` after rounding to nearest, ties to even: `m` of R58 before the carry is taken out. -/
def roundSignificand (n : Nat) : Nat :=
  let s := topBit n - 23
  let m := n / 2 ^ s
  let r := n % 2 ^ s
  let h := 2 ^ (s - 1)
  if h < r ∨ (r = h ∧ m % 2 = 1) then m + 1 else m

/-- The formula of R58 on the integer n, `2^29 <= n < 2^31`. -/
def binary32OfNat (n : Nat) : Word :=
  let m := roundSignificand n
  let e := 96 + topBit n
  if m = 2 ^ 24 then packBinary32 (e + 1) (2 ^ 23) else packBinary32 e m

/-- `i2f` of R58; outside its domain a free value (log entry 5). -/
def i2f (v : Word) : Word :=
  if normalised v then binary32OfNat (uint v) else Config.freeI2f v

/-- `magic` of R59: MAGIC minus the pattern shifted right by one. -/
def magic (b : Word) : Word := sub32 magicConst (lsr b 1)

/-- The biased exponent `B[30:23]` of a binary32 pattern (R36). -/
def expField (b : Word) : Nat := uint (b.extractLsb' 23 8)

/-- The fraction `B[22:0]` of a binary32 pattern (R36). -/
def fracField (b : Word) : Nat := uint (b.extractLsb' 0 23)

/-- The domain of `f2q` (R60): sign 0 and biased exponent 120 to 127. -/
abbrev f2qDomain (b : Word) : Prop :=
  b.getLsbD 31 = false ∧ 120 ≤ expField b ∧ expField b ≤ 127

/-- `f2q` of R60: the real number times 2^30, an integer; outside its domain a free value (log entry 6). -/
def f2q (b : Word) : Word :=
  if f2qDomain b then BitVec.ofNat 32 ((2 ^ 23 + fracField b) * 2 ^ (expField b - 120))
  else Config.freeF2q b

/-- The seed of a normalised number: the three wires of R57 one after the other. -/
def seedOf (num : Word) : Word := f2q (magic (i2f num))

/-- SEED (R57): VAR1 is the seed of NUM. -/
def execSeed (s : State) : Result := .next ((s.setVar1 (seedOf s.num)).goto codeNr1)

end Sys2Proof.Machine
end

