-- ==== Sys2Proof/Machine/Sequencer.lean ====
section
/-! DEFINITION. The micro-operations IDLE and CHECK (spec/40_sequencer_check.md R47, R48) and the reserved stage
codes (spec/30_encoding.md R42). -/

namespace Sys2Proof.Machine

/-- IDLE (R47): "the state stays as it is until a START or a reset". -/
def execIdle (s : State) : Result := .next s

/-- CHECK (R48): an operand that is not strictly positive raises ArgumentError (R93, R94); any other is copied
to NUM. -/
def execCheck (s : State) : Result :=
  if sint s.inReg ≤ 0 then .next s.raiseArgumentError
  else .next ((s.setNum s.inReg).goto codeClz)

/-- The reserved codes (R42): no stage, hence no step; the machine is stuck. -/
def execReserved (x : BitVec 2) (_s : State) : Result := .fault (.stuckReservedStage x)

end Sys2Proof.Machine
end

