-- ==== Sys2Proof/Machine/Writeback.lean ====
section
/-! DEFINITION. The micro-operations RECON, DESCALE and WB
(spec/44_reconstruct_descale_writeback.md R68, R69, R70). -/

namespace Sys2Proof.Machine

/-- The reconstruction product of R68: `narrow32((temp * var1) >> 31) << 1`. -/
def recon (temp var1 : Word) : Word := shl (mulShift31 temp var1) reconShift

/-- RECON (R68). -/
def execRecon (s : State) : Result := .next ((s.setVar1 (recon s.temp s.var1)).goto codeDescale)

/-- DESCALE (R69): VAR1 shifted right by half the normalising shift. -/
def execDescale (s : State) : Result :=
  .next ((s.setVar1 (asr s.var1 (descaleShift (uint s.sb)))).goto codeWb)

/-- WB (R70): OUT, ERR and VALID in one step; the operation ends. -/
def execWb (s : State) : Result := .next (s.publish s.var1 statusSuccess)

end Sys2Proof.Machine
end

