-- ==== Sys2Proof/Machine/Dispatch.lean ====
section
/-! DEFINITION. One arm per instruction, each a direct call of its meaning. -/

namespace Sys2Proof.Machine

def exec (i : Instr) (s : State) : Host.Outcome State Fault Refusal :=
  match i with
  | .idle => Sys2Proof.Machine.execIdle s
  | .check => Sys2Proof.Machine.execCheck s
  | .clz => Sys2Proof.Machine.execClz s
  | .norm => Sys2Proof.Machine.execNorm s
  | .half => Sys2Proof.Machine.execHalf s
  | .seed => Sys2Proof.Machine.execSeed s
  | .nr1 => Sys2Proof.Machine.execNr1 s
  | .nr2 => Sys2Proof.Machine.execNr2 s
  | .nr3 => Sys2Proof.Machine.execNr3 s
  | .recon => Sys2Proof.Machine.execRecon s
  | .descale => Sys2Proof.Machine.execDescale s
  | .wb => Sys2Proof.Machine.execWb s
  | .reserved x => Sys2Proof.Machine.execReserved x s
  | .start d => Sys2Proof.Machine.execStart d s
  | .sample => Sys2Proof.Machine.execSample s
  | .reset => Sys2Proof.Machine.execReset s

end Sys2Proof.Machine
end

