-- ==== Sys2Proof/Machine/Fetch.lean ====
section
/-! DEFINITION. Which instruction the next step runs, and how an instruction is placed there. The CORE fetches
nothing from a memory (spec/20_memory.md R32): the micro-operation is the one named by STAGE, and the host and the
reset act through the input ports (spec/40_sequencer_check.md R49). -/

namespace Sys2Proof.Machine

/-- The input ports when the host drives nothing: no reset, no operand. -/
abbrev quietPorts : InPorts := { rst := 0#1, opValid := 0#1, opData := 0#32 }

/-- What the levels on the ports and the stage select: reset wins over every other step (R89, R97); an operand is
taken exactly when op_valid = 1 in IDLE (R86); otherwise the sequencer's step is the stage's (R46, R87). -/
def select (p : InPorts) (stage : BitVec 4) : Encoding :=
  if p.rst = 1#1 then .rst
  else if p.opValid = 1#1 ∧ stage = codeIdle then .operand p.opData
  else .stage stage

/-- What reaches the decoder in this step. -/
def State.fetch (s : State) : Encoding :=
  match s.host with
  | [] => select quietPorts s.stage
  | .drive p :: _ => select p s.stage
  | .sample :: _ => .look

/-- The host's act is used up by the step it belongs to: an operand shown while the CORE is busy is not remembered
(R87). -/
def State.afterFetch (s : State) : State := { s with host := s.host.tail }

/-- Place an encoding where the next step finds it: a stage code in STAGE with quiet ports, an operand on the ports
of an idle CORE, the port rst asserted, or a look of the host (log entry 14). -/
def State.place (s : State) : Encoding → State
  | .stage c => { s with stage := c, host := .drive quietPorts :: s.host }
  | .operand w => { s with stage := codeIdle, host := .drive { rst := 0#1, opValid := 1#1, opData := w } :: s.host }
  | .rst => { s with host := .drive { rst := 1#1, opValid := 0#1, opData := 0#32 } :: s.host }
  | .look => { s with host := .sample :: s.host }

/-- The state once the placed encoding has been fetched: only STAGE may differ from the state it was placed in. -/
def State.placed (s : State) : Encoding → State
  | .stage c => s.goto c
  | .operand _ => s.goto codeIdle
  | .rst => s
  | .look => s

end Sys2Proof.Machine
end

