-- ==== Sys2Proof/Machine/Step.lean ====
section
/-! DEFINITION. One step: what the ports and STAGE select is decoded and run (spec/40_sequencer_check.md R46, R49). -/

namespace Sys2Proof.Machine

/-- One step of the machine. -/
def step (s : State) : Host.Outcome State Fault Refusal := exec (decode s.fetch) s.afterFetch

/-- `s` with the table word `w` of `nbits` bits where the next step finds its instruction (log entry 14); `s` itself
where the decoder rejects the word. -/
def State.withFetchWord (s : State) (nbits w : Nat) : State :=
  match Encoding.ofBits nbits w with
  | .ok e => s.place e
  | .error _ => s

end Sys2Proof.Machine
end

