-- ==== Sys2Proof/Machine/EndToEnd.lean ====
section
/-! DEFINITION. The operation end to end, `FixedSqrt`, as the composed function of spec/45_end_to_end.md R73, one
name per value that the rule names. No meaning uses it; the statements compare the machine with it (R74). -/

namespace Sys2Proof.Machine

/-- `sb` of R73. -/
def opSb (w : Word) : Nat := clz32 w - 1

/-- `k` of R73. -/
def opK (w : Word) : Nat := opSb w / 2

/-- `num` of R73, the normalised operand. -/
def opNum (w : Word) : Word := shl w (2 * opK w)

/-- `half` of R73. -/
def opHalf (w : Word) : Word := asr (opNum w) 1

/-- `v0` of R73, the seed. -/
def opV0 (w : Word) : Word := seedOf (opNum w)

/-- `v1` of R73. -/
def opV1 (w : Word) : Word := nr (opV0 w) (opHalf w)

/-- `v2` of R73. -/
def opV2 (w : Word) : Word := nr (opV1 w) (opHalf w)

/-- `v3` of R73. -/
def opV3 (w : Word) : Word := nr (opV2 w) (opHalf w)

/-- `rec` of R73. -/
def opRec (w : Word) : Word := recon (opNum w) (opV3 w)

/-- `out` of R73. -/
def opOut (w : Word) : Word := asr (opRec w) (opK w)

/-- `FixedSqrt` of R73: result and status code. -/
def fixedSqrt (w : Word) : Word × BitVec 1 :=
  if sint w ≤ 0 then (errorResult, statusArgumentError) else (opOut w, statusSuccess)

end Sys2Proof.Machine
end

