-- ==== Sys2Proof/WellFormed.lean ====
section
/-! DEFINITION. Which terms of Instr are instructions the spec gives a meaning: all but the reserved stage codes,
which "name no stage" (spec/30_encoding.md R42). Every operand field is as wide as its encoding by its type, so
no range check is left (R40: every 32-bit pattern is a valid START payload). -/

namespace Sys2Proof

/-- The instruction names a stage or a host transaction (R42 excludes the codes 12 to 15). -/
def Instr.wellFormed : Instr → Bool
  | .idle => true
  | .check => true
  | .clz => true
  | .norm => true
  | .half => true
  | .seed => true
  | .nr1 => true
  | .nr2 => true
  | .nr3 => true
  | .recon => true
  | .descale => true
  | .wb => true
  | .reserved _ => false
  | .start _ => true
  | .sample => true
  | .reset => true

end Sys2Proof
end

