-- ==== Sys2Proof/Safety.lean ====
section
/-! DEFINITION. The terms the statements use: the invariant of an operation in flight, the host's scripts, and the
datapath over unbounded integers (spec/45_end_to_end.md R76 allows a model to state it so). -/

namespace Sys2Proof.Machine

/-- Every register that the operation in flight has written holds the value that FixedSqrt (R73) gives for the
operand in IN, STAGE is one of the twelve stages (R19), and while VALID is 1 the CORE is idle and OUT and ERR hold
the result of the latest operation (R18). Registers the operation has not written are free (R23). -/
structure State.Inv (s : State) : Prop where
  /-- STAGE holds one of the codes 0 to 11 (R19, R42). -/
  stage_legal : uint s.stage ≤ 11
  /-- VALID = 1 only in IDLE, with the result of the operand in IN (R18, R50). -/
  result : s.valid = 1#1 → s.stage = codeIdle ∧ (s.out, s.err) = fixedSqrt s.inReg
  /-- Past CHECK the operand is legal (R48). -/
  legal : 2 ≤ uint s.stage → legalOperand s.inReg
  /-- NUM is the operand until NORM (R48). -/
  num_raw : uint s.stage = 2 ∨ uint s.stage = 3 → s.num = s.inReg
  /-- LZ is the count when NORM reads it (R52). -/
  lz_count : uint s.stage = 3 → uint s.lz = clz32 s.inReg
  /-- NUM is the normalised operand after NORM (R53). -/
  num_norm : 4 ≤ uint s.stage → s.num = opNum s.inReg
  /-- SB is signBits after NORM (R53). -/
  sb_count : 4 ≤ uint s.stage → uint s.sb = opSb s.inReg
  /-- HALF holds half the normalised operand after the HALF stage (R55). -/
  half_val : 5 ≤ uint s.stage → s.half = opHalf s.inReg
  /-- TEMP holds the normalised operand after the HALF stage (R55). -/
  temp_val : 5 ≤ uint s.stage → s.temp = opNum s.inReg
  /-- VAR1 before NR1 is the seed (R57). -/
  var1_seed : uint s.stage = 6 → s.var1 = opV0 s.inReg
  /-- VAR1 before NR2 (R63). -/
  var1_nr1 : uint s.stage = 7 → s.var1 = opV1 s.inReg
  /-- VAR1 before NR3 (R64). -/
  var1_nr2 : uint s.stage = 8 → s.var1 = opV2 s.inReg
  /-- VAR1 before RECON (R65). -/
  var1_nr3 : uint s.stage = 9 → s.var1 = opV3 s.inReg
  /-- VAR1 before DESCALE (R68). -/
  var1_recon : uint s.stage = 10 → s.var1 = opRec s.inReg
  /-- VAR1 before WB (R69). -/
  var1_descale : uint s.stage = 11 → s.var1 = opOut s.inReg

/-- The levels of a host that presents the operand `w` (R86). -/
abbrev startPorts (w : Word) : InPorts := { rst := 0#1, opValid := 1#1, opData := w }

/-- The host drives the ports without asserting rst: a step in which an operation in flight goes on (R49, R87). -/
def HostAct.letsRun : HostAct → Bool
  | .drive p => p.rst == 0#1
  | .sample => false

/-- The next step is the sequencer's: the host neither looks nor asserts rst, and shows no operand to an idle CORE
(R46, R87; an operand shown to a busy CORE is ignored). -/
def State.sequencerMoves (s : State) : Prop :=
  s.host = [] ∨ ∃ (p : InPorts) (rest : List HostAct), s.host = .drive p :: rest ∧ p.rst = 0#1 ∧
    (p.opValid = 0#1 ∨ s.stage ≠ codeIdle)

/-- The number of sequencer steps of an operation: 11 for a legal operand, 1 for any other (R50). -/
def opSteps (w : Word) : Nat := if 0 < sint w then 11 else 1

/-- The script `SQRT w` of spec/30_encoding.md R45: START w, the sequencer's steps to IDLE, SAMPLE. -/
def sqrtScript (w : Word) : List HostAct :=
  .drive (startPorts w) :: (List.replicate (opSteps w) (.drive quietPorts) ++ [.sample])

/-- The scripts of several operands, one after the other (R92). -/
def sqrtScripts : List Word → List HostAct
  | [] => []
  | w :: ws => sqrtScript w ++ sqrtScripts ws

/-- What SAMPLE returns at the end of the script `SQRT w` (R91). -/
def sqrtSample (w : Word) : Sample :=
  { resValid := 1#1, resData := (fixedSqrt w).1, resStatus := (fixedSqrt w).2, busy := 0#1 }

/-! The datapath over unbounded integers, with floor division and no wrapping anywhere (R76). -/

/-- `t1` of R62 on integers. -/
def intT1 (v : Int) : Int := v * v / 2 ^ 31

/-- `t2` of R62 on integers. -/
def intT2 (v hf : Int) : Int := intT1 v * hf / 2 ^ 31

/-- `t3` of R62 on integers; 805306368 is C (R41). -/
def intT3 (v hf : Int) : Int := 805306368 - intT2 v hf

/-- `t4` of R62 on integers. -/
def intT4 (v hf : Int) : Int := v * intT3 v hf / 2 ^ 31

/-- The Newton-Raphson update of R62 on integers. -/
def intNr (v hf : Int) : Int := 4 * intT4 v hf

/-- The binary32 pattern of R58, read as a number: `n` is rounded to 24 significant bits and the pattern is
`(95 + p) * 2^23 + m`, in which a rounding carry of `m` moves into the exponent by itself. -/
def intB (n : Int) : Int :=
  let p : Nat := if 2 ^ 30 ≤ n then 30 else 29
  let unit : Int := 2 ^ (p - 23)
  let m := n / unit
  let up : Int := if unit < 2 * (n % unit) ∨ (2 * (n % unit) = unit ∧ m % 2 = 1) then 1 else 0
  (95 + p) * 2 ^ 23 + (m + up)

/-- The transformed pattern of R59, read as a number; 1597463007 is MAGIC (R41). -/
def intBp (n : Int) : Int := 1597463007 - intB n / 2

/-- The seed of R57 on integers. -/
def intSeed (n : Int) : Int := (2 ^ 23 + intBp n % 2 ^ 23) * 2 ^ (intBp n / 2 ^ 23 - 120).toNat

/-- `k` of R73 for an operand `n >= 1`, whose most significant 1 bit is at `Nat.log2 n`. -/
def intK (n : Nat) : Nat := (30 - Nat.log2 n) / 2

/-- `num` of R73 on integers. -/
def intNum (n : Nat) : Int := n * 4 ^ intK n

/-- `half` of R73 on integers. -/
def intHalf (n : Nat) : Int := intNum n / 2

/-- `v0` of R73 on integers. -/
def intV0 (n : Nat) : Int := intSeed (intNum n)

/-- `v1` of R73 on integers. -/
def intV1 (n : Nat) : Int := intNr (intV0 n) (intHalf n)

/-- `v2` of R73 on integers. -/
def intV2 (n : Nat) : Int := intNr (intV1 n) (intHalf n)

/-- `v3` of R73 on integers. -/
def intV3 (n : Nat) : Int := intNr (intV2 n) (intHalf n)

/-- `rec` of R73 on integers. -/
def intRec (n : Nat) : Int := 2 * (intNum n * intV3 n / 2 ^ 31)

/-- `out` of R73 on integers. -/
def intSqrt (n : Nat) : Int := intRec n / 2 ^ intK n

/-- A product of two words is positive and below 2^62 (R76). -/
abbrev productFits (a b : Word) : Prop := 0 < sint (mul64 a b) ∧ sint (mul64 a b) < 2 ^ 62

/-- Nothing wraps inside the update `nr v hf` (R66, R76): every product is positive and below 2^62, and every wire and
the result are positive and equal to their values on unbounded integers. -/
structure UpdateExact (v hf : Word) : Prop where
  /-- The product p1. -/
  p1 : productFits v v
  /-- The wire t1. -/
  t1 : 0 < sint (nrT1 v) ∧ sint (nrT1 v) = intT1 (sint v)
  /-- The product p2. -/
  p2 : productFits (nrT1 v) hf
  /-- The wire t2. -/
  t2 : 0 < sint (nrT2 v hf) ∧ sint (nrT2 v hf) = intT2 (sint v) (sint hf)
  /-- The wire t3. -/
  t3 : 0 < sint (nrT3 v hf) ∧ sint (nrT3 v hf) = intT3 (sint v) (sint hf)
  /-- The product p3. -/
  p3 : productFits v (nrT3 v hf)
  /-- The wire t4. -/
  t4 : 0 < sint (nrT4 v hf) ∧ sint (nrT4 v hf) = intT4 (sint v) (sint hf)
  /-- The shifted result. -/
  result : 0 < sint (nr v hf) ∧ sint (nr v hf) = intNr (sint v) (sint hf)

end Sys2Proof.Machine
end

