-- ==== Sys2Proof/Certificates/Slice0/Obligations.lean ====
section
/-! DEFINITION. The statements about the model, for the provers. Each docstring names the rule of spec/ it
formalises, or the sections it is derived from. -/

open Sys2Proof Sys2Proof.Machine

/-! ## Decoding -/

/-- R39 (spec/30_encoding.md): decoding is the identity on STAGE; every code is four bits and names the one
instruction with that code; with quiet ports the stage whose code is in STAGE executes. -/
def Obligations.StageDecodingIsIdentity : Prop :=
  (∀ c : BitVec 4, encode (decode (.stage c)) = .stage c ∧ (Encoding.stage c).width = 4)
  ∧ (∀ (c : BitVec 4) (i : Instr), encode i = .stage c → decode (.stage c) = i)
  ∧ (∀ s : State, s.host = [] → step s = exec (decode (.stage s.stage)) s)

/-- Derived from the code table of spec/30_encoding.md section 2, the format H of R40 and the port rst of R89: words
written out from the table decode to the instruction they stand for. The widths that stand for SAMPLE and RESET are
the model's choice (log entry 13). -/
def Obligations.TableWordsDecode : Prop :=
  decodeTableWord 8 0b0000 = some .idle ∧ decodeTableWord 8 0b0001 = some .check
  ∧ decodeTableWord 8 0b0010 = some .clz ∧ decodeTableWord 8 0b0011 = some .norm
  ∧ decodeTableWord 8 0b0100 = some .half ∧ decodeTableWord 8 0b0101 = some .seed
  ∧ decodeTableWord 8 0b0110 = some .nr1 ∧ decodeTableWord 8 0b0111 = some .nr2
  ∧ decodeTableWord 8 0b1000 = some .nr3 ∧ decodeTableWord 8 0b1001 = some .recon
  ∧ decodeTableWord 8 0b1010 = some .descale ∧ decodeTableWord 8 0b1011 = some .wb
  ∧ decodeTableWord 8 0b1100 = some (.reserved 0#2) ∧ decodeTableWord 8 0b1111 = some (.reserved 3#2)
  ∧ decodeTableWord 8 0b10000 = none
  ∧ decodeTableWord 32 0x7FFFFFFF = some (.start 0x7FFFFFFF#32)
  ∧ decodeTableWord 0 0 = some .sample ∧ decodeTableWord 1 1 = some .reset

/-- Derived from spec/30_encoding.md sections 2 and 3: every instruction's bits decode to that instruction, with
every operand, and a number that decodes to an instruction is exactly that instruction's bits, in its own width or,
for a stage code, in a whole byte. The widths that stand for SAMPLE and RESET are the model's choice (log entry 13). -/
def Obligations.DecodeEncodeAgree : Prop :=
  (∀ i : Instr, decode (encode i) = i ∧ decodeBits (encode i).width (encode i).bits = .ok i)
  ∧ (∀ (nbits w : Nat) (i : Instr), decodeBits nbits w = .ok i →
      (encode i).bits = w ∧ ((encode i).width = nbits ∨ ((encode i).width = 4 ∧ nbits = 8)))

/-- Derived from spec/40_sequencer_check.md section 1 and spec/46_host_interface.md section 2: a step runs the
instruction selected by the host's act and STAGE, on the state whose host act is used up (the host's list is the
model's own, log entry 1). -/
def Obligations.StepRunsDecodedInstruction : Prop :=
  (∀ s : State, step s = exec (decode s.fetch) s.afterFetch)
  ∧ (∀ s : State, s.host = [] → step s = exec (decode (.stage s.stage)) s)
  ∧ (∀ (s : State) (rest : List HostAct), s.host = .sample :: rest →
      step s = exec .sample { s with host := rest })
  ∧ (∀ (s : State) (p : InPorts) (rest : List HostAct), s.host = .drive p :: rest → p.rst = 1#1 →
      step s = exec .reset { s with host := rest })
  ∧ (∀ (s : State) (p : InPorts) (rest : List HostAct), s.host = .drive p :: rest → p.rst = 0#1 →
      p.opValid = 1#1 → s.stage = codeIdle → step s = exec (.start p.opData) { s with host := rest })
  ∧ (∀ (s : State) (p : InPorts) (rest : List HostAct), s.host = .drive p :: rest → p.rst = 0#1 →
      (p.opValid = 0#1 ∨ s.stage ≠ codeIdle) →
      step s = exec (decode (.stage s.stage)) { s with host := rest })

/-- Derived from the same sections: a table word placed for the next step is decoded and run by exactly that step
(how an instruction is placed is the model's choice, log entry 14). -/
def Obligations.PlacedWordRunsNext : Prop :=
  ∀ (s : State) (nbits w : Nat) (i : Instr), decodeTableWord nbits w = some i →
    ∃ e : Encoding, Encoding.ofBits nbits w = .ok e ∧ decode e = i ∧
      step (s.withFetchWord nbits w) = exec i (s.placed e) ∧
      (s.placed e = s ∨ ∃ c : BitVec 4, s.placed e = { s with stage := c })

/-! ## The sequencer: IDLE, CHECK, the reserved codes -/

/-- R47: IDLE writes nothing; with no START and no reset the idle CORE stays as it is; it is idle with VALID = 0
after reset and with VALID = 1 after an operation; after RESET and any number of SAMPLE actions no register has
changed and the ports show `(0, 0x00000000, 0, 0)`. -/
def Obligations.IdleKeepsTheState : Prop :=
  encode .idle = .stage 0b0000#4
  ∧ (∀ s : State, exec .idle s = .next s)
  ∧ (∀ s : State, s.stage = codeIdle → s.host = [] → step s = .next s)
  ∧ (∀ (s : State) (p : InPorts) (rest : List HostAct), s.stage = codeIdle → s.host = .drive p :: rest →
      p.rst = 0#1 → p.opValid = 0#1 → step s = .next { s with host := rest })
  ∧ State.reset.stage = codeIdle ∧ State.reset.valid = 0#1
  ∧ (∀ s t : State, exec .wb s = .next t → t.stage = codeIdle ∧ t.valid = 1#1)
  ∧ (∀ s t : State, sint s.inReg ≤ 0 → exec .check s = .next t → t.stage = codeIdle ∧ t.valid = 1#1)
  ∧ (∀ (s t : State) (n : Nat), exec .reset s = .next t → t.host = List.replicate n .sample →
      ∃ u : State, Host.Core.run Sys2Proof.core n t = .next u ∧ { u with host := t.host, samples := t.samples } = t
        ∧ u.view = { resValid := 0#1, resData := 0x00000000#32, resStatus := 0#1, busy := 0#1 })

/-- R48: CHECK on a legal and on an illegal operand, with the corner cases and examples of the rule. -/
def Obligations.CheckRejectsOrAccepts : Prop :=
  encode .check = .stage 0b0001#4
  ∧ (∀ s : State, sint s.inReg ≤ 0 →
      exec .check s = .next { s with out := 0x00000000#32, err := 1#1, valid := 1#1, stage := codeIdle })
  ∧ (∀ s : State, 0 < sint s.inReg → exec .check s = .next { s with num := s.inReg, stage := codeClz })
  ∧ (∀ w : Word, sint w ≤ 0 ↔ (w.getLsbD 31 = true ∨ w = 0x00000000#32))
  ∧ (∀ s : State, s.inReg = 0x00000000#32 ∨ s.inReg = 0xFFFFFFFF#32 ∨ s.inReg = 0x80000000#32 →
      exec .check s = .next { s with out := 0x00000000#32, err := 1#1, valid := 1#1, stage := codeIdle })
  ∧ (∀ s : State, s.inReg = 0x00000001#32 ∨ s.inReg = 0x40000000#32 →
      exec .check s = .next { s with num := s.inReg, stage := codeClz })

/-- R93 and R94: ArgumentError is raised by CHECK only, exactly when `sint(IN) <= 0`; its four writes take effect
together, the internal registers are left as they were and IN keeps the rejected operand. -/
def Obligations.ArgumentErrorFromCheckOnly : Prop :=
  (∀ s : State, s.raiseArgumentError =
      { s with out := 0x00000000#32, err := 1#1, valid := 1#1, stage := codeIdle })
  ∧ (∀ s : State, exec .check s = .next s.raiseArgumentError ↔ sint s.inReg ≤ 0)
  ∧ (∀ (i : Instr) (s t : State), exec i s = .next t → s.err = 0#1 → t.err = 1#1 →
      i = .check ∧ sint s.inReg ≤ 0)

/-- R42: the codes 12 to 15 name no stage, a state that holds one is stuck, and no step reaches one from a state that
holds none. -/
def Obligations.ReservedStagesStuckAndUnreachable : Prop :=
  (∀ x : BitVec 2, encode (.reserved x) = .stage (0b11#2 ++ x) ∧ (Instr.reserved x).wellFormed = false)
  ∧ (∀ (x : BitVec 2) (s : State), exec (.reserved x) s = .fault (.stuckReservedStage x))
  ∧ (∀ c : BitVec 4, 12 ≤ uint c → decode (.stage c) = .reserved (c.setWidth 2))
  ∧ uint State.reset.stage ≤ 11
  ∧ (∀ s t : State, uint s.stage ≤ 11 → step s = .next t → uint t.stage ≤ 11)

/-- R46: the successor of every stage, for every step that is the sequencer's, one of a busy CORE under a presented
operand included; such a step exists from every legal stage; only START leaves IDLE, to CHECK. -/
def Obligations.StageSuccessors : Prop :=
  (∀ s t : State, s.sequencerMoves → step s = .next t →
    (s.stage = codeIdle → t = { s with host := s.host.tail })
    ∧ (s.stage = codeCheck → t.stage = if sint s.inReg ≤ 0 then codeIdle else codeClz)
    ∧ (s.stage = codeClz → t.stage = codeNorm) ∧ (s.stage = codeNorm → t.stage = codeHalf)
    ∧ (s.stage = codeHalf → t.stage = codeSeed) ∧ (s.stage = codeSeed → t.stage = codeNr1)
    ∧ (s.stage = codeNr1 → t.stage = codeNr2) ∧ (s.stage = codeNr2 → t.stage = codeNr3)
    ∧ (s.stage = codeNr3 → t.stage = codeRecon) ∧ (s.stage = codeRecon → t.stage = codeDescale)
    ∧ (s.stage = codeDescale → t.stage = codeWb) ∧ (s.stage = codeWb → t.stage = codeIdle))
  ∧ (∀ s : State, s.sequencerMoves → uint s.stage ≤ 11 → ∃ t : State, step s = .next t)
  ∧ (∀ (i : Instr) (s t : State), s.stage = codeIdle → decode s.fetch = i → step s = .next t →
      t.stage ≠ codeIdle → (∃ d : Word, i = .start d) ∧ t.stage = codeCheck)

/-! ## CLZ, NORM, HALF -/

/-- R51: the leading-zero counter, by the position of the first 1 bit, by its size, on the zero word and on the
values of the rule's table. -/
def Obligations.LeadingZeroCount : Prop :=
  (∀ v : Word, v ≠ 0#32 →
    clz32 v ≤ 31 ∧ (∀ j : Nat, j < clz32 v → v.getLsbD (31 - j) = false) ∧ v.getLsbD (31 - clz32 v) = true
    ∧ 2 ^ (31 - clz32 v) ≤ uint v ∧ uint v < 2 ^ (32 - clz32 v))
  ∧ clz32 0x00000000#32 = 32 ∧ clz32 0x00000001#32 = 31 ∧ clz32 0x00000002#32 = 30 ∧ clz32 0x00000003#32 = 30
  ∧ clz32 0x00008000#32 = 16 ∧ clz32 0x00010000#32 = 15 ∧ clz32 0x00C0FFEE#32 = 8 ∧ clz32 0x12345678#32 = 3
  ∧ clz32 0x20000000#32 = 2 ∧ clz32 0x3FFFFFFF#32 = 2 ∧ clz32 0x40000000#32 = 1 ∧ clz32 0x7FFFFFFF#32 = 1
  ∧ clz32 0x80000000#32 = 0 ∧ clz32 0xFFFFFFFF#32 = 0

/-- R52: CLZ writes the count of NUM to LZ, whose six bits hold it, and goes to NORM; on a positive NUM the count is
1 to 31; the examples of the rule. -/
def Obligations.ClzCountsIntoLz : Prop :=
  encode .clz = .stage 0b0010#4
  ∧ (∀ s : State, exec .clz s = .next { s with lz := BitVec.ofNat 6 (clz32 s.num), stage := codeNorm }
      ∧ uint (BitVec.ofNat 6 (clz32 s.num)) = clz32 s.num)
  ∧ (∀ s : State, 0 < sint s.num → 1 ≤ clz32 s.num ∧ clz32 s.num ≤ 31)
  ∧ (∀ s : State, s.num = 0x12345678#32 → exec .clz s = .next { s with lz := 3#6, stage := codeNorm })
  ∧ (∀ s : State, s.num = 0x00000001#32 → exec .clz s = .next { s with lz := 31#6, stage := codeNorm })
  ∧ (∀ s : State, s.num = 0x7FFFFFFF#32 → exec .clz s = .next { s with lz := 1#6, stage := codeNorm })

/-- R53: NORM for every LZ the rule gives a meaning, 1 to 31, with the corner cases and examples of the rule. -/
def Obligations.NormShiftsByAnEvenAmount : Prop :=
  encode .norm = .stage 0b0011#4
  ∧ (∀ (s : State) (sb sh : Nat), 1 ≤ uint s.lz → uint s.lz ≤ 31 → sb = uint s.lz - 1 →
      sh = (if sb % 2 = 0 then sb else sb - 1) →
      exec .norm s = .next { s with sb := BitVec.ofNat 5 sb, num := s.num <<< sh, stage := codeHalf }
      ∧ uint (BitVec.ofNat 5 sb) = sb ∧ sh = 2 * (sb / 2) ∧ sh ≤ 30
      ∧ (0 < sint s.num → uint s.lz = clz32 s.num → uint (s.num <<< sh) = uint s.num * 2 ^ sh))
  ∧ (∀ s : State, s.lz = 1#6 → exec .norm s = .next { s with sb := 0#5, stage := codeHalf })
  ∧ (∀ s : State, s.lz = 2#6 → exec .norm s = .next { s with sb := 1#5, stage := codeHalf })
  ∧ (∀ s : State, s.lz = 31#6 → s.num = 0x00000001#32 →
      exec .norm s = .next { s with sb := 30#5, num := 0x40000000#32, stage := codeHalf })
  ∧ (∀ s : State, s.lz = 30#6 → exec .norm s = .next { s with sb := 29#5, num := s.num <<< 28, stage := codeHalf })
  ∧ (∀ s : State, s.lz = 3#6 → s.num = 0x12345678#32 →
      exec .norm s = .next { s with sb := 2#5, num := 0x48D159E0#32, stage := codeHalf })
  ∧ (∀ s : State, s.lz = 8#6 → s.num = 0x00C0FFEE#32 →
      exec .norm s = .next { s with sb := 7#5, num := 0x303FFB80#32, stage := codeHalf })

/-- Derived (the model's choice, log entries 7 and 8): where the spec gives NORM no meaning it still completes, only SB
and NUM left open, STAGE is HALF and every other register is unchanged; and DESCALE with SB = 31, which no
operation reaches, is the pseudocode as it stands, k = 15. -/
def Obligations.UnreachableCountsComplete : Prop :=
  (∀ s : State, ∃ (sb : BitVec 5) (num : Word),
    exec .norm s = .next { s with sb := sb, num := num, stage := codeHalf })
  ∧ (∀ s : State, s.sb = 31#5 →
    exec .descale s = .next { s with var1 := s.var1.sshiftRight 15, stage := codeWb })

/-- Derived from spec/41_clz_normalize.md section 2 (R54 and R56, which the spec marks as derived): the normalised
number of a legal operand is the operand times 2^sh exactly, its top bit is at index 30 or 29 by the parity of sb,
and the two shift amounts are 2 * (sb div 2) and sb div 2. -/
def Obligations.NormalisedNumberRange : Prop :=
  (∀ w : Word, legalOperand w →
    opSb w ≤ 30
    ∧ sint (opNum w) = sint w * 2 ^ (2 * (opSb w / 2))
    ∧ (opSb w % 2 = 0 → 2 ^ 30 ≤ sint (opNum w) ∧ sint (opNum w) < 2 ^ 31)
    ∧ (opSb w % 2 = 1 → 2 ^ 29 ≤ sint (opNum w) ∧ sint (opNum w) < 2 ^ 30)
    ∧ normalised (opNum w))
  ∧ (∀ sb : Nat, sb ≤ 30 → normShift sb = 2 * (sb / 2) ∧ descaleShift sb = sb / 2)
  ∧ (∀ w : Word, normalised w → opNum w = w)

/-- R55: HALF, with the corner cases and the example of the rule. -/
def Obligations.HalfAndTempFromNum : Prop :=
  encode .half = .stage 0b0100#4
  ∧ (∀ s : State, exec .half s = .next { s with half := s.num.sshiftRight 1, temp := s.num, stage := codeSeed })
  ∧ (∀ v : Word, sint (v.sshiftRight 1) = sint v / 2)
  ∧ (∀ v : Word, 0 < sint v → v.sshiftRight 1 = v >>> 1)
  ∧ (∀ v : Word, normalised v → 2 ^ 28 ≤ sint (v.sshiftRight 1) ∧ sint (v.sshiftRight 1) < 2 ^ 30)
  ∧ (∀ s : State, s.num = 0x7FFFFFFF#32 →
      exec .half s = .next { s with half := 0x3FFFFFFF#32, temp := 0x7FFFFFFF#32, stage := codeSeed })
  ∧ (∀ s : State, s.num = 0x48D159E0#32 →
      exec .half s = .next { s with half := 0x2468ACF0#32, temp := 0x48D159E0#32, stage := codeSeed })

/-! ## SEED -/

/-- R57: SEED of a normalised number (the domain of `i2f`, R58) writes f2q(magic(i2f(NUM))) to VAR1 and nothing else but
STAGE; the example of the rule. Any other NUM is in SeedCompletesOnEveryNum. -/
def Obligations.SeedWritesVar1 : Prop :=
  encode .seed = .stage 0b0101#4
  ∧ (∀ s : State, normalised s.num →
      exec .seed s = .next { s with var1 := f2q (magic (i2f s.num)), stage := codeNr1 })
  ∧ i2f 0x40000000#32 = 0x3F000000#32 ∧ magic 0x3F000000#32 = 0x3FB759DF#32
  ∧ (∀ s : State, s.num = 0x40000000#32 → exec .seed s = .next { s with var1 := 0x5BACEF80#32, stage := codeNr1 })

/-- Derived from spec/42_seed.md R58 and spec/30_encoding.md R36: on its domain `i2f` gives a positive normal
binary32 number that is a multiple of the unit in the last place of n, is nearest to n * 2^-31, and on a tie has an
even significand; the corner cases of R58. The real number of the pattern is g * 2^-31. -/
def Obligations.IntegerToBinary32RoundsToNearestEven : Prop :=
  (∀ (v : Word) (ulp g n : Int), normalised v → n = sint v → ulp = (if 2 ^ 30 ≤ n then 128 else 64) →
    g = (2 ^ 23 + (fracField (i2f v) : Int)) * 2 ^ (expField (i2f v) - 119) →
    (i2f v).getLsbD 31 = false ∧ 125 ≤ expField (i2f v) ∧ expField (i2f v) ≤ 127
    ∧ g % ulp = 0 ∧ 2 * (g - n) ≤ ulp ∧ 2 * (n - g) ≤ ulp
    ∧ ((2 * (g - n) = ulp ∨ 2 * (n - g) = ulp) → (g / ulp) % 2 = 0))
  ∧ i2f 0x40000040#32 = 0x3F000000#32 ∧ i2f 0x400000C0#32 = 0x3F000002#32 ∧ i2f 0x48D159E0#32 = 0x3F11A2B4#32
  ∧ (∀ v : Word, 0x7FFFFFC0 ≤ sint v → i2f v = 0x3F800000#32)
  ∧ (∀ v : Word, 0x3FFFFFE0 ≤ sint v → sint v ≤ 0x3FFFFFFF → i2f v = 0x3F000000#32)

/-- R59, for the patterns with bit 31 clear, which are all that occur (a pattern with bit 31 set is in
SeedCompletesOnEveryNum): the magic transform is MAGIC minus the pattern shifted right by one; for every pattern of `i2f` the logical
and the arithmetic shift agree and the subtraction neither borrows nor changes sign; the example of the rule. -/
def Obligations.MagicTransform : Prop :=
  (∀ b : Word, b.getLsbD 31 = false → magic b = 0x5F3759DF#32 - (b >>> 1))
  ∧ (∀ b : Word, b.getLsbD 31 = false → b >>> 1 = b.sshiftRight 1)
  ∧ (∀ v : Word, normalised v →
      (i2f v).getLsbD 31 = false ∧ uint (magic (i2f v)) + uint (i2f v) / 2 = 0x5F3759DF
      ∧ (magic (i2f v)).getLsbD 31 = false)
  ∧ 0x3F11A2B4#32 >>> 1 = 0x1F88D15A#32 ∧ magic 0x3F11A2B4#32 = 0x3FAE8885#32

/-- R60: on its domain `f2q` is the exact product by 2^30, below 2^31; the examples of the rule. -/
def Obligations.Binary32ToFixedPoint : Prop :=
  (∀ (b : Word) (e m : Nat), b.getLsbD 31 = false → e = uint b / 2 ^ 23 % 2 ^ 8 → m = uint b % 2 ^ 23 →
    120 ≤ e → e ≤ 127 →
    uint (f2q b) = (2 ^ 23 + m) * 2 ^ (e - 120) ∧ sint (f2q b) = ((2 ^ 23 + m) * 2 ^ (e - 120) : Nat)
    ∧ uint (f2q b) < 2 ^ 31)
  ∧ f2q 0x3FAE8885#32 = 0x57444280#32 ∧ f2q 0x3F7759DF#32 = 0x3DD677C0#32

/-- Derived from spec/42_seed.md R61 (which the spec marks as derived): the ranges of the wires of SEED and of the
seed for every normalised number, and that the seed never increases with NUM. -/
def Obligations.SeedRangeAndOrder : Prop :=
  (∀ v : Word, normalised v →
    0x3E800000 ≤ uint (i2f v) ∧ uint (i2f v) ≤ 0x3F800000
    ∧ 0x3F7759DF ≤ uint (magic (i2f v)) ∧ uint (magic (i2f v)) ≤ 0x3FF759DF
    ∧ 0x3DD677C0 ≤ sint (seedOf v) ∧ sint (seedOf v) ≤ 0x7BACEF80 ∧ sint (seedOf v) % 64 = 0)
  ∧ (∀ v w : Word, normalised v → normalised w → sint v ≤ sint w → sint (seedOf w) ≤ sint (seedOf v))
  ∧ seedOf 0x20000000#32 = 0x7BACEF80#32 ∧ seedOf 0x7FFFFFFF#32 = 0x3DD677C0#32

/-! ## Newton-Raphson -/

/-- R62: one update, for every pair of words: three 64-bit signed products, each shifted right arithmetically by 31
and narrowed to its low 32 bits, a 32-bit subtraction from C and a left shift by 2. -/
def Obligations.NewtonUpdateFormula : Prop :=
  ∀ v hf t1 t2 t3 t4 : Word,
    t1 = ((v.signExtend 64 * v.signExtend 64).sshiftRight 31).setWidth 32 →
    t2 = ((t1.signExtend 64 * hf.signExtend 64).sshiftRight 31).setWidth 32 →
    t3 = 0x30000000#32 - t2 →
    t4 = ((v.signExtend 64 * t3.signExtend 64).sshiftRight 31).setWidth 32 →
    nr v hf = t4 <<< 2

/-- R63, R64 and R65: NR1, NR2 and NR3 update VAR1 with HALF, each goes to its successor and writes nothing else;
the examples of the three rules. -/
def Obligations.NewtonStagesUpdateVar1 : Prop :=
  encode .nr1 = .stage 0b0110#4 ∧ encode .nr2 = .stage 0b0111#4 ∧ encode .nr3 = .stage 0b1000#4
  ∧ (∀ s : State, exec .nr1 s = .next { s with var1 := nr s.var1 s.half, stage := codeNr2 })
  ∧ (∀ s : State, exec .nr2 s = .next { s with var1 := nr s.var1 s.half, stage := codeNr3 })
  ∧ (∀ s : State, exec .nr3 s = .next { s with var1 := nr s.var1 s.half, stage := codeRecon })
  ∧ (∀ s : State, s.var1 = 0x5BACEF80#32 → s.half = 0x20000000#32 →
      exec .nr1 s = .next { s with var1 := 0x5A7CAEFC#32, stage := codeNr2 })
  ∧ mul64 0x5BACEF80#32 0x5BACEF80#32 = 0x20D46717B4104000#64 ∧ mulShift31 0x5BACEF80#32 0x5BACEF80#32 = 0x41A8CE2F#32
  ∧ mul64 0x41A8CE2F#32 0x20000000#32 = 0x083519C5E0000000#64 ∧ mulShift31 0x41A8CE2F#32 0x20000000#32 = 0x106A338B#32
  ∧ sub32 0x30000000#32 0x106A338B#32 = 0x1F95CC75#32
  ∧ mul64 0x5BACEF80#32 0x1F95CC75#32 = 0x0B4F95DF9A637580#64 ∧ mulShift31 0x5BACEF80#32 0x1F95CC75#32 = 0x169F2BBF#32
  ∧ (∀ s : State, s.var1 = 0x5A7CAEFC#32 → s.half = 0x20000000#32 →
      exec .nr2 s = .next { s with var1 := 0x5A82790C#32, stage := codeNr3 })
  ∧ mulShift31 0x5A7CAEFC#32 0x5A7CAEFC#32 = 0x3FF7CF86#32 ∧ mulShift31 0x3FF7CF86#32 0x20000000#32 = 0x0FFDF3E1#32
  ∧ sub32 0x30000000#32 0x0FFDF3E1#32 = 0x20020C1F#32 ∧ mulShift31 0x5A7CAEFC#32 0x20020C1F#32 = 0x16A09E43#32
  ∧ (∀ s : State, s.var1 = 0x5A82790C#32 → s.half = 0x20000000#32 →
      exec .nr3 s = .next { s with var1 := 0x5A82799C#32, stage := codeRecon })
  ∧ mulShift31 0x5A82790C#32 0x5A82790C#32 = 0x3FFFFF37#32 ∧ mulShift31 0x3FFFFF37#32 0x20000000#32 = 0x0FFFFFCD#32
  ∧ sub32 0x30000000#32 0x0FFFFFCD#32 = 0x20000033#32 ∧ mulShift31 0x5A82790C#32 0x20000033#32 = 0x16A09E67#32

/-! ## RECON, DESCALE, WB -/

/-- R68: RECON, with the examples of the rule; bit 0 of VAR1 is 0 after it. -/
def Obligations.ReconMultipliesTempAndVar1 : Prop :=
  encode .recon = .stage 0b1001#4
  ∧ (∀ (s : State) (r : Word),
      r = ((s.temp.signExtend 64 * s.var1.signExtend 64).sshiftRight 31).setWidth 32 →
      exec .recon s = .next { s with var1 := r <<< 1, stage := codeDescale })
  ∧ (∀ s t : State, exec .recon s = .next t → t.var1.getLsbD 0 = false)
  ∧ mul64 0x40000000#32 0x5A82799C#32 = 0x16A09E6700000000#64 ∧ mulShift31 0x40000000#32 0x5A82799C#32 = 0x2D413CCE#32
  ∧ (∀ s : State, s.temp = 0x40000000#32 → s.var1 = 0x5A82799C#32 →
      exec .recon s = .next { s with var1 := 0x5A82799C#32, stage := codeDescale })
  ∧ mul64 0x48D159E0#32 0x54DA5204#32 = 0x1822CB183ACF2780#64 ∧ mulShift31 0x48D159E0#32 0x54DA5204#32 = 0x30459630#32
  ∧ (∀ s : State, s.temp = 0x48D159E0#32 → s.var1 = 0x54DA5204#32 →
      exec .recon s = .next { s with var1 := 0x608B2C60#32, stage := codeDescale })

/-- R69: DESCALE shifts VAR1 right arithmetically by SB div 2, for every SB of its range 0 to 30 (R12); the corner cases
and examples of the rule. SB = 31 is in UnreachableCountsComplete. -/
def Obligations.DescaleShiftsByHalfOfSb : Prop :=
  encode .descale = .stage 0b1010#4
  ∧ (∀ (s : State) (sb k : Nat), sb = uint s.sb → sb ≤ 30 → k = (if sb % 2 = 0 then sb / 2 else (sb - 1) / 2) →
      exec .descale s = .next { s with var1 := s.var1.sshiftRight k, stage := codeWb } ∧ k = sb / 2 ∧ k ≤ 15)
  ∧ (∀ (v : Word) (k : Nat), sint (v.sshiftRight k) = sint v / 2 ^ k)
  ∧ (∀ s : State, s.sb = 0#5 ∨ s.sb = 1#5 → exec .descale s = .next { s with stage := codeWb })
  ∧ (∀ s : State, s.sb = 29#5 → exec .descale s = .next { s with var1 := s.var1.sshiftRight 14, stage := codeWb })
  ∧ (∀ s : State, s.sb = 2#5 → s.var1 = 0x608B2C60#32 →
      exec .descale s = .next { s with var1 := 0x30459630#32, stage := codeWb })
  ∧ (∀ s : State, s.sb = 30#5 → s.var1 = 0x5A82799C#32 →
      exec .descale s = .next { s with var1 := 0x0000B504#32, stage := codeWb })
  ∧ (∀ s : State, s.sb = 7#5 → s.var1 = 0x4E9664C0#32 →
      exec .descale s = .next { s with var1 := 0x09D2CC98#32, stage := codeWb })

/-- Derived from spec/44_reconstruct_descale_writeback.md R70: WB writes OUT, ERR and VALID in one step, whatever they
held, returns to IDLE and writes nothing else; the example of the rule. -/
def Obligations.WritebackPublishesVar1 : Prop :=
  encode .wb = .stage 0b1011#4
  ∧ (∀ s : State, exec .wb s = .next { s with out := s.var1, err := 0#1, valid := 1#1, stage := codeIdle })
  ∧ (∀ s : State, s.var1 = 0x30459630#32 →
      exec .wb s = .next { s with out := 0x30459630#32, err := 0#1, valid := 1#1, stage := codeIdle })

/-! ## The host transactions -/

/-- R86: START in IDLE; every operand is accepted, OUT and ERR keep the previous result; it occurs exactly when
op_valid = 1 and op_ready = 1 (and no reset, R97); the example of the rule. -/
def Obligations.StartCapturesTheOperand : Prop :=
  (∀ d : Word, encode (.start d) = .operand d)
  ∧ (∀ (d : Word) (s : State), s.stage = codeIdle →
      exec (.start d) s = .next { s with inReg := d, valid := 0#1, stage := codeCheck })
  ∧ (∀ (s : State) (p : InPorts) (rest : List HostAct), s.host = .drive p :: rest → p.rst = 0#1 →
      ((p.opValid = 1#1 ∧ s.opReady = 1#1) ↔ s.fetch = .operand p.opData))
  ∧ (∀ (s : State) (p : InPorts) (rest : List HostAct), s.host = .drive p :: rest → p.rst = 0#1 →
      p.opValid = 1#1 → s.opReady = 1#1 →
      step s = .next { s with inReg := p.opData, valid := 0#1, stage := codeCheck, host := rest })
  ∧ (∀ s : State, s.stage = codeIdle → s.valid = 1#1 → s.out = 0x5A82799C#32 → s.err = 0#1 →
      exec (.start 0x00000002#32) s = .next { s with
        inReg := 0x00000002#32, valid := 0#1, stage := codeCheck, out := 0x5A82799C#32, err := 0#1 })

/-- R87: while the CORE is busy op_ready is 0 and no START occurs: whatever the host drives on op_valid and op_data,
the step is the sequencer's and nothing of the operand is kept; an operand held until the CORE is idle is taken then. -/
def Obligations.NoStartWhileBusy : Prop :=
  (∀ (s : State), s.stage ≠ codeIdle → s.opReady = 0#1)
  ∧ (∀ (s : State) (p q : InPorts) (rest : List HostAct), s.stage ≠ codeIdle → p.rst = 0#1 → q.rst = 0#1 →
      step { s with host := .drive p :: rest } = step { s with host := .drive q :: rest })
  ∧ (∀ (s : State) (w : Word) (rest : List HostAct), s.stage = codeIdle →
      step { s with host := .drive (startPorts w) :: rest } =
        .next { s with inReg := w, valid := 0#1, stage := codeCheck, host := rest })

/-- Derived from spec/20_memory.md R29(d): op_data has no influence on a step in which no operand is taken. -/
def Obligations.OperandIgnoredWithoutStart : Prop :=
  ∀ (s : State) (p q : InPorts) (rest : List HostAct), p.rst = q.rst → p.opValid = 0#1 → q.opValid = 0#1 →
    step { s with host := .drive p :: rest } = step { s with host := .drive q :: rest }

/-- Derived from spec/46_host_interface.md section 2 (R88): SAMPLE returns (VALID, OUT, ERR, STAGE != IDLE) and writes no
register, in any stage; while VALID = 1 the result is that of the latest operation; the two examples of the rule.
That the host notes the returned tuple is the model's own bookkeeping (log entry 2). -/
def Obligations.SampleReadsAndWritesNothing : Prop :=
  (∀ s : State, exec .sample s = .next { s with samples :=
      { resValid := s.valid, resData := s.out, resStatus := s.err,
        busy := if s.stage = codeIdle then 0#1 else 1#1 } :: s.samples })
  ∧ (∀ (s : State) (rest : List HostAct), s.host = .sample :: rest →
      step s = .next { s with host := rest, samples := s.view :: s.samples })
  ∧ (∀ s : State, s.Inv → s.valid = 1#1 → (s.view.resData, s.view.resStatus) = fixedSqrt s.inReg ∧ s.view.busy = 0#1)
  ∧ (∀ s : State, s.Inv → s.valid = 1#1 → s.inReg = 0x40000000#32 →
      s.view = { resValid := 1#1, resData := 0x5A82799C#32, resStatus := 0#1, busy := 0#1 })
  ∧ (∀ s : State, s.Inv → s.valid = 1#1 → s.inReg = 0x00000000#32 →
      s.view = { resValid := 1#1, resData := 0x00000000#32, resStatus := 1#1, busy := 0#1 })

/-- R89: RESET in any stage; the seven internal registers become unspecified, so they are only said to exist; while
rst is asserted neither a START nor a sequencer step occurs; a START can occur once it is released; the example of
the rule. -/
def Obligations.ResetClearsTheControlState : Prop :=
  encode .reset = .rst
  ∧ (∀ s : State, ∃ (i n h t v : Word) (l : BitVec 6) (b : BitVec 5) (r : Nat),
      exec .reset s = .next { s with
        inReg := i, num := n, lz := l, sb := b, half := h, temp := t, var1 := v
        out := 0x00000000#32, err := 0#1, valid := 0#1, stage := codeIdle, resets := r })
  ∧ (∀ (s : State) (p : InPorts) (rest : List HostAct), s.host = .drive p :: rest → p.rst = 1#1 →
      step s = exec .reset { s with host := rest })
  ∧ (∀ (s t : State) (w : Word), exec .reset s = .next t → ∃ u : State,
      step { t with host := [.drive (startPorts w)] } = .next u ∧ u.inReg = w ∧ u.stage = codeCheck)
  ∧ (∀ s t : State, s.stage = codeNr2 → s.valid = 0#1 → s.out = 0x5A82799C#32 → exec .reset s = .next t →
      t.stage = codeIdle ∧ t.valid = 0#1 ∧ t.err = 0#1 ∧ t.out = 0x00000000#32)

/-- R97: a reset wins over a sequencer step and over a START; a START and a sequencer step are never enabled
together; only CHECK raises the exceptional condition. -/
def Obligations.ResetWins : Prop :=
  (∀ (p : InPorts) (c : BitVec 4), p.rst = 1#1 → select p c = .rst)
  ∧ (∀ (p : InPorts) (c : BitVec 4) (d : Word), select p c = .operand d → c = codeIdle)
  ∧ (∀ (p : InPorts) (c e : BitVec 4), select p c = .stage e → e = c ∧ (c ≠ codeIdle ∨ p.opValid = 0#1))
  ∧ (∀ (i : Instr) (s t : State), exec i s = .next t → s.err = 0#1 → t.err = 1#1 → i = .check)

/-- R104: after reset the CORE is idle and executes nothing until a START: for the reset state of the model and for
the state after a RESET from any state. -/
def Obligations.IdleAfterReset : Prop :=
  (State.reset.opReady = 1#1 ∧ State.reset.busy = 0#1 ∧ State.reset.valid = 0#1)
  ∧ (∀ n : Nat, Host.Core.run Sys2Proof.core n State.reset = .next State.reset)
  ∧ (∀ (s t : State) (n : Nat), exec .reset s = .next t → t.host = [] →
      t.opReady = 1#1 ∧ t.busy = 0#1 ∧ t.valid = 0#1 ∧ Host.Core.run Sys2Proof.core n t = .next t)

/-- Derived from spec/10_state.md section 6: the four registers the spec gives a reset value hold it in the reset state
(for the seven others the model's zero, log entry 3, is not stated). -/
def Obligations.ResetValues : Prop :=
  State.reset.stage = 0b0000#4 ∧ State.reset.valid = 0#1 ∧ State.reset.err = 0#1 ∧ State.reset.out = 0x00000000#32

/-- R20: op_ready and busy are functions of STAGE, complements of each other, and the result ports are the registers
themselves. -/
def Obligations.DerivedSignals : Prop :=
  ∀ s : State, (s.busy = 1#1 ↔ s.stage ≠ codeIdle) ∧ (s.opReady = 1#1 ↔ s.stage = codeIdle)
    ∧ s.busy = ~~~ s.opReady ∧ s.view.resValid = s.valid ∧ s.view.resData = s.out ∧ s.view.resStatus = s.err
    ∧ s.view.busy = s.busy

/-! ## Frames over all instructions -/

/-- Derived from the "written by" column of spec/10_state.md section 1 (R8) and from R31(e): each of the eleven registers
changes only under an instruction the table names for it (RESET makes the internal registers unspecified, R89);
STAGE changes under every instruction but SAMPLE, which writes nothing (R88), and IDLE, which keeps it (R47). The
model's own lists (log entries 1 and 2): the host's pending acts are no instruction's to change, and only SAMPLE adds
to what the host has read. -/
def Obligations.RegisterWriters : Prop :=
  ∀ (i : Instr) (s t : State), exec i s = .next t →
    (t.inReg ≠ s.inReg → i = .reset ∨ ∃ d : Word, i = .start d)
    ∧ (t.num ≠ s.num → i = .check ∨ i = .norm ∨ i = .reset)
    ∧ (t.lz ≠ s.lz → i = .clz ∨ i = .reset)
    ∧ (t.sb ≠ s.sb → i = .norm ∨ i = .reset)
    ∧ (t.half ≠ s.half → i = .half ∨ i = .reset)
    ∧ (t.temp ≠ s.temp → i = .half ∨ i = .reset)
    ∧ (t.var1 ≠ s.var1 → i = .seed ∨ i = .nr1 ∨ i = .nr2 ∨ i = .nr3 ∨ i = .recon ∨ i = .descale ∨ i = .reset)
    ∧ (t.out ≠ s.out → i = .check ∨ i = .wb ∨ i = .reset)
    ∧ (t.err ≠ s.err → i = .check ∨ i = .wb ∨ i = .reset)
    ∧ (t.valid ≠ s.valid → i = .check ∨ i = .wb ∨ i = .reset ∨ ∃ d : Word, i = .start d)
    ∧ (t.stage ≠ s.stage → i ≠ .sample ∧ i ≠ .idle)
    ∧ t.host = s.host ∧ (t.samples ≠ s.samples → i = .sample)

/-- Derived from spec/20_memory.md R29(b): OUT or ERR changes only in a step that also sets VALID and ends the
operation, or in a RESET. -/
def Obligations.NoTornResult : Prop :=
  ∀ s t : State, step s = .next t → (t.out ≠ s.out ∨ t.err ≠ s.err) →
    (t.valid = 1#1 ∧ t.stage = codeIdle ∧ (s.stage = codeCheck ∨ s.stage = codeWb)) ∨ s.fetch = .rst

/-- Derived from spec/10_state.md R18 and spec/20_memory.md R31(d): in a state that meets the invariant with VALID = 1,
a step keeps OUT and ERR, and keeps VALID too unless a START is accepted; only RESET discards the result. -/
def Obligations.ResultHeldUntilStart : Prop :=
  ∀ s t : State, s.Inv → s.valid = 1#1 → step s = .next t →
    s.fetch = .rst
    ∨ (t.out = s.out ∧ t.err = s.err ∧ (t.valid = 1#1 ∨ (t.valid = 0#1 ∧ ∃ d : Word, s.fetch = .operand d)))

/-! ## Invariants -/

/-- Derived from spec/10_state.md R10 to R18, R23 and spec/45_end_to_end.md section 1: the invariant of an operation in
flight is kept by every step, START, SAMPLE and RESET in any stage included. -/
def Obligations.OperationInvariantKept : Prop :=
  ∀ s t : State, s.Inv → step s = .next t → t.Inv

/-- Derived from spec/10_state.md section 6: the invariant holds in the reset state. -/
def Obligations.OperationInvariantAtReset : Prop := State.reset.Inv

/-- Derived from spec/40_sequencer_check.md R49 and spec/60_exceptions.md R95: a state that meets the invariant has a
next state, whatever the host does. -/
def Obligations.NoStepStops : Prop :=
  ∀ s : State, s.Inv → ∃ t : State, step s = .next t

/-! ## The operation end to end -/

/-- Derived from spec/45_end_to_end.md R74 and spec/40_sequencer_check.md R50: from any idle state, START with operand w
and then 11 (legal) or 1 (illegal) sequencer steps with no reset leave (OUT, ERR) = FixedSqrt(w), VALID = 1 and
STAGE = IDLE, whatever the registers held before and whatever else the host drives; before the last of these steps
the CORE is busy and VALID is 0. -/
def Obligations.SequencerComputesFixedSqrt : Prop :=
  ∀ (s : State) (w : Word) (rest : List HostAct), s.stage = codeIdle → s.host = .drive (startPorts w) :: rest →
    (∀ a ∈ rest.take (opSteps w), a.letsRun = true) →
    (∃ t : State, Host.Core.run Sys2Proof.core (opSteps w + 1) s = .next t
      ∧ (t.out, t.err) = fixedSqrt w ∧ t.valid = 1#1 ∧ t.stage = codeIdle ∧ t.inReg = w
      ∧ t.host = rest.drop (opSteps w) ∧ t.samples = s.samples ∧ t.resets = s.resets)
    ∧ (∀ m : Nat, 1 ≤ m → m ≤ opSteps w → ∃ u : State, Host.Core.run Sys2Proof.core m s = .next u
      ∧ u.stage ≠ codeIdle ∧ u.valid = 0#1 ∧ u.out = s.out ∧ u.err = s.err)

/-- Derived from spec/45_end_to_end.md R81 and spec/10_state.md R23: two idle CORES whose registers differ in any way
show the same OUT, ERR, VALID and readiness at the end of an operation on the same operand. -/
def Obligations.ResultDependsOnOperandAlone : Prop :=
  ∀ (s s' : State) (w : Word) (rest rest' : List HostAct), s.stage = codeIdle → s'.stage = codeIdle →
    s.host = .drive (startPorts w) :: rest → s'.host = .drive (startPorts w) :: rest' →
    (∀ a ∈ rest.take (opSteps w), a.letsRun = true) → (∀ a ∈ rest'.take (opSteps w), a.letsRun = true) →
    ∃ t t' : State, Host.Core.run Sys2Proof.core (opSteps w + 1) s = .next t
      ∧ Host.Core.run Sys2Proof.core (opSteps w + 1) s' = .next t' ∧ t.view = t'.view ∧ t.view.resValid = 1#1

/-- Derived from spec/46_host_interface.md R91 and R92 (the list of host acts and the list of noted samples it speaks of
are the model's own, log entries 1 and 2): for every sequence of operands, the scripts SQRT one after the
other from any idle state return the results of FixedSqrt in order, one per operation, errors included. -/
def Obligations.BackToBackResults : Prop :=
  ∀ (ws : List Word) (s : State), s.stage = codeIdle → s.host = sqrtScripts ws →
    ∃ t : State, Host.Core.run Sys2Proof.core (sqrtScripts ws).length s = .next t
      ∧ t.samples = (ws.map sqrtSample).reverse ++ s.samples ∧ t.stage = codeIdle ∧ t.host = []

/-- Derived from spec/46_host_interface.md R89 (a reset during an operation abandons it): a RESET before the last
sequencer step of an operation leaves VALID = 0 with no writeback of that operation. -/
def Obligations.ResetAbandonsOperation : Prop :=
  ∀ (s : State) (w : Word) (m : Nat) (rest : List HostAct), s.stage = codeIdle → m < opSteps w →
    s.host = .drive (startPorts w) :: (List.replicate m (.drive quietPorts) ++
      .drive { rst := 1#1, opValid := 0#1, opData := 0#32 } :: rest) →
    ∃ t : State, Host.Core.run Sys2Proof.core (m + 2) s = .next t ∧ t.valid = 0#1 ∧ t.err = 0#1
      ∧ t.out = 0x00000000#32 ∧ t.stage = codeIdle ∧ t.host = rest

/-- Derived from spec/45_end_to_end.md R76 and spec/43_newton_raphson.md R66 (the spec obtains them by exhaustive
evaluation): on every legal operand no value of the datapath wraps. Every value that R73 names, the two patterns of
SEED and every wire of the three updates equal their values over unbounded integers with floor division, and every
64-bit product is positive and below 2^62. -/
def Obligations.DatapathEqualsUnboundedIntegers : Prop :=
  ∀ (w : Word) (n : Nat), legalOperand w → n = uint w →
    (opK w = intK n ∧ sint (opNum w) = intNum n ∧ sint (opHalf w) = intHalf n)
    ∧ ((uint (i2f (opNum w)) : Int) = intB (intNum n) ∧ (uint (magic (i2f (opNum w))) : Int) = intBp (intNum n))
    ∧ (sint (opV0 w) = intV0 n ∧ sint (opV1 w) = intV1 n ∧ sint (opV2 w) = intV2 n ∧ sint (opV3 w) = intV3 n)
    ∧ (UpdateExact (opV0 w) (opHalf w) ∧ UpdateExact (opV1 w) (opHalf w) ∧ UpdateExact (opV2 w) (opHalf w))
    ∧ productFits (opNum w) (opV3 w)
    ∧ sint (mulShift31 (opNum w) (opV3 w)) = intNum n * intV3 n / 2 ^ 31
    ∧ sint (opRec w) = intRec n ∧ sint (opOut w) = intSqrt n

/-- Derived from spec/43_newton_raphson.md R66 and spec/44_reconstruct_descale_writeback.md R71: on every legal operand
the estimates and the reconstructed root are positive, the estimates are multiples of 4 and stay below 2^31, and
the reconstructed root is even. -/
def Obligations.EstimatesStayPositive : Prop :=
  ∀ w : Word, legalOperand w →
    0 < sint (opV0 w) ∧ 0 < sint (opV1 w) ∧ 0 < sint (opV2 w) ∧ 0 < sint (opV3 w) ∧ 0 < sint (opRec w)
    ∧ sint (opV1 w) % 4 = 0 ∧ sint (opV2 w) % 4 = 0 ∧ sint (opV3 w) % 4 = 0 ∧ sint (opRec w) % 2 = 0

/-- Derived from spec/45_end_to_end.md R77: the status of every operand, and the bounds of the result on success. -/
def Obligations.StatusAndResultBounds : Prop :=
  (∀ w : Word, sint w ≤ 0 → fixedSqrt w = (0x00000000#32, 1#1))
  ∧ (∀ w : Word, 0 < sint w → (fixedSqrt w).2 = 0#1 ∧ 46340 ≤ sint (fixedSqrt w).1
      ∧ sint (fixedSqrt w).1 ≤ 2147483646)

/-- Derived from spec/45_end_to_end.md R78 and spec/90_conflicts.md C2: the document's own accuracy test,
`abs(out^2 - in * 2^31) / (in * 2^31) < epsilon`, holds for every legal operand with epsilon = 4.2e-05. -/
def Obligations.AccuracyWithinEpsilon : Prop :=
  ∀ w : Word, legalOperand w →
    10000000 * |sint (opOut w) ^ 2 - sint w * 2 ^ 31| < 420 * (sint w * 2 ^ 31)

/-- Derived from spec/45_end_to_end.md R75: the result is the reconstructed root of the normalised operand shifted
right by k, so an operand times 4^j, while in range, shares everything but that shift. -/
def Obligations.ScalingByPowersOfFour : Prop :=
  (∀ w : Word, legalOperand w →
    sint (opOut w) = sint (opRec (opNum w)) / 2 ^ opK w ∧ opK (opNum w) = 0)
  ∧ (∀ (v w : Word) (j : Nat), legalOperand v → sint w = sint v * 4 ^ j →
      opNum w = opNum v ∧ opV3 w = opV3 v ∧ opRec w = opRec v ∧ opK v = opK w + j)

/-- Derived from spec/45_end_to_end.md R80: the golden values. -/
def Obligations.GoldenValues : Prop :=
  fixedSqrt 0x00000000#32 = (0x00000000#32, 1#1) ∧ fixedSqrt 0xFFFFFFFF#32 = (0x00000000#32, 1#1)
  ∧ fixedSqrt 0x7FFFFFFF#32 = (0x7FFFFFFE#32, 0#1) ∧ fixedSqrt 0x40000000#32 = (0x5A82799C#32, 0#1)

/-- Derived from spec/45_end_to_end.md R79 and spec/90_conflicts.md C3: the result is not monotonic in the operand;
the two pairs of neighbours that the spec names. -/
def Obligations.NotMonotonic : Prop :=
  (fixedSqrt 0x061C35B0#32).1 = 0x1BF754CE#32 ∧ (fixedSqrt 0x061C35B1#32).1 = 0x1BF754CD#32
  ∧ (fixedSqrt 0x40B6F803#32).1 = 0x5B037E8C#32 ∧ (fixedSqrt 0x40B6F804#32).1 = 0x5B037E84#32

/-! ## Where an operation never comes: the model's choices -/

/-- Derived (the model's choice, log entry 10; the spec's words are those of spec/46_host_interface.md section 2): a START
executed on a busy CORE, which no step selects, is a next state in which nothing has changed. -/
def Obligations.BusyStartChangesNothing : Prop :=
  ∀ (d : Word) (s : State), s.stage ≠ codeIdle →
    exec (.start d) s = .next s ∧ decode s.fetch ≠ .start d

/-- Derived (the model's choice, log entries 5, 6 and 9): SEED completes on every NUM, writing VAR1 and STAGE only; the
magic transform of a pattern with bit 31 set is the formula as it stands. -/
def Obligations.SeedCompletesOnEveryNum : Prop :=
  (∀ s : State, exec .seed s = .next { s with var1 := f2q (magic (i2f s.num)), stage := codeNr1 })
  ∧ (∀ b : Word, b.getLsbD 31 = true → magic b = 0x5F3759DF#32 - (b >>> 1))
end

