-- ==== Sys2Proof/Laws/Arith.lean ====
section
/-! SUPPORT. One lemma per arithmetic primitive of spec/00_scope.md R7: what it is on integers, and the operation of
BitVec it agrees with. The provers cite these instead of unfolding the primitives. -/

namespace Sys2Proof.Machine

/-- `sint` is BitVec's signed reading. -/
theorem sint_def {n : Nat} (v : BitVec n) : sint v = v.toInt := rfl

/-- `uint` is BitVec's unsigned reading. -/
theorem uint_def {n : Nat} (v : BitVec n) : uint v = v.toNat := rfl

/-- A wrapped integer that fits the signed range is read back unchanged. -/
theorem sint_wrap_of_fits {n : Nat} {z : Int} (hn : 0 < n) (hl : -2 ^ (n - 1) ≤ z) (hu : z < 2 ^ (n - 1)) :
    sint (wrap n z) = z := by
  obtain ⟨k, rfl⟩ : ∃ k, n = k + 1 := ⟨n - 1, by omega⟩
  rw [wrap, sint, BitVec.toInt_ofInt]
  simp only [Nat.add_sub_cancel] at hl hu
  have hk : ((2 ^ (k + 1) : Nat) : Int) = 2 * 2 ^ k := by push_cast; ring
  apply Int.bmod_eq_of_le <;> omega

/-- The signed range of a vector. -/
theorem sint_range {n : Nat} (v : BitVec n) : -2 ^ (n - 1) ≤ sint v ∧ sint v < 2 ^ (n - 1) :=
  ⟨BitVec.le_toInt v, BitVec.toInt_lt⟩

/-- The product of two words never wraps (R7). -/
theorem sint_mul64 (a b : Word) : sint (mul64 a b) = sint a * sint b := by
  have ha := sint_range a
  have hb := sint_range b
  norm_num at ha hb
  have key : |sint a * sint b| ≤ 2147483648 * 2147483648 := by
    rw [abs_mul]
    exact mul_le_mul (abs_le.2 ⟨ha.1, by linarith [ha.2]⟩) (abs_le.2 ⟨hb.1, by linarith [hb.2]⟩) (abs_nonneg _) (by norm_num)
  obtain ⟨h1, h2⟩ := abs_le.1 key
  exact sint_wrap_of_fits (by decide) (by norm_num; linarith) (by norm_num; linarith)

/-- The product is BitVec's on the sign-extended factors. -/
theorem mul64_eq_mul (a b : Word) : mul64 a b = a.signExtend 64 * b.signExtend 64 := by
  apply BitVec.eq_of_toInt_eq
  rw [mul64, wrap, BitVec.toInt_ofInt, BitVec.toInt_mul, BitVec.toInt_signExtend_of_le (by decide),
    BitVec.toInt_signExtend_of_le (by decide)]

/-- The arithmetic right shift is the floor of the signed value divided by 2^k (R7). -/
theorem sint_asr {n : Nat} (hn : 0 < n) (v : BitVec n) (k : Nat) : sint (asr v k) = sint v / 2 ^ k := by
  have hv := sint_range v
  have hp : (0 : Int) < 2 ^ k := by positivity
  have h1 : (1 : Int) ≤ 2 ^ k := hp
  refine sint_wrap_of_fits hn ?_ ?_
  · rw [Int.le_ediv_iff_mul_le hp]
    nlinarith [hv.1, show (0 : Int) < 2 ^ (n - 1) by positivity]
  · rw [Int.ediv_lt_iff_lt_mul hp]
    nlinarith [hv.2, show (0 : Int) < 2 ^ (n - 1) by positivity]

/-- The arithmetic right shift is BitVec's. -/
theorem asr_eq_sshiftRight {n : Nat} (hn : 0 < n) (v : BitVec n) (k : Nat) : asr v k = v.sshiftRight k := by
  apply BitVec.eq_of_toInt_eq
  rw [BitVec.toInt_sshiftRight, Int.shiftRight_eq_div_pow]
  exact_mod_cast sint_asr hn v k

/-- The logical right shift is BitVec's. -/
theorem lsr_eq_ushiftRight {n : Nat} (v : BitVec n) (k : Nat) : lsr v k = v >>> k := by
  apply BitVec.eq_of_toNat_eq
  rw [lsr, BitVec.toNat_ofNat, BitVec.toNat_ushiftRight, Nat.shiftRight_eq_div_pow]
  exact Nat.mod_eq_of_lt (lt_of_le_of_lt (Nat.div_le_self _ _) v.isLt)

/-- The left shift is BitVec's. -/
theorem shl_eq_shiftLeft {n : Nat} (v : BitVec n) (k : Nat) : shl v k = v <<< k := by
  apply BitVec.eq_of_toNat_eq
  rw [shl, BitVec.toNat_ofNat, BitVec.toNat_shiftLeft, Nat.shiftLeft_eq]

/-- A left shift that loses no 1 bit multiplies. -/
theorem uint_shl_of_fits {n : Nat} {v : BitVec n} {k : Nat} (h : uint v * 2 ^ k < 2 ^ n) :
    uint (shl v k) = uint v * 2 ^ k := by
  rw [shl, uint, BitVec.toNat_ofNat]
  exact Nat.mod_eq_of_lt h

/-- Narrowing keeps the low 32 bits (R7). -/
theorem narrow32_eq_setWidth (w : DWord) : narrow32 w = w.setWidth 32 := by
  apply BitVec.eq_of_toNat_eq
  simp [narrow32]

/-- Narrowing a value that fits 32 signed bits changes nothing. -/
theorem sint_narrow32_of_fits {w : DWord} (hl : -2 ^ 31 ≤ sint w) (hu : sint w < 2 ^ 31) :
    sint (narrow32 w) = sint w := by
  rw [narrow32_eq_setWidth, sint, ← BitVec.signExtend_eq_setWidth_of_le w (by decide : 32 ≤ 64),
    BitVec.toInt_signExtend_eq_toInt_bmod_of_le _ (by decide)]
  apply Int.bmod_eq_of_le <;> norm_num at hl hu ⊢ <;> assumption

/-- The subtraction is BitVec's (R7: it wraps modulo 2^32). -/
theorem sub32_eq_sub (a b : Word) : sub32 a b = a - b := by
  apply BitVec.eq_of_toInt_eq
  rw [sub32, wrap, BitVec.toInt_ofInt, BitVec.toInt_sub]

/-- The addition is BitVec's (R7). -/
theorem add32_eq_add (a b : Word) : add32 a b = a + b := by
  apply BitVec.eq_of_toInt_eq
  rw [add32, wrap, BitVec.toInt_ofInt, BitVec.toInt_add]

/-- A subtraction whose exact result fits is exact. -/
theorem sint_sub32_of_fits {a b : Word} (hl : -2 ^ 31 ≤ sint a - sint b) (hu : sint a - sint b < 2 ^ 31) :
    sint (sub32 a b) = sint a - sint b :=
  sint_wrap_of_fits (by decide) (by norm_num; linarith) (by norm_num; linarith)

/-- The step that every multiplication of the datapath ends with, where its result fits 32 signed bits: the floor of
the exact product divided by 2^31. -/
theorem sint_mulShift31_of_fits {a b : Word} (hl : -2 ^ 31 ≤ sint a * sint b / 2 ^ 31)
    (hu : sint a * sint b / 2 ^ 31 < 2 ^ 31) : sint (mulShift31 a b) = sint a * sint b / 2 ^ 31 := by
  have h : sint (asr (mul64 a b) productShift) = sint a * sint b / 2 ^ 31 := by
    rw [sint_asr (by decide), sint_mul64]
  rw [mulShift31, sint_narrow32_of_fits] <;> rw [h] <;> assumption

/-- The recursion of the leading-zero counter. -/
@[simp] theorem zerosBelow_zero (v : Word) : zerosBelow v 0 = 0 := rfl

/-- A set bit ends the count. -/
theorem zerosBelow_succ_of_set {v : Word} {n : Nat} (h : v.getLsbD n = true) : zerosBelow v (n + 1) = 0 := by
  simp [zerosBelow, h]

/-- A clear bit is counted. -/
theorem zerosBelow_succ_of_clear {v : Word} {n : Nat} (h : v.getLsbD n = false) :
    zerosBelow v (n + 1) = zerosBelow v n + 1 := by
  simp [zerosBelow, h]

/-- The count never passes the number of bits looked at. -/
theorem zerosBelow_le (v : Word) (n : Nat) : zerosBelow v n ≤ n := by
  induction n with
  | zero => simp
  | succ n ih =>
    cases h : v.getLsbD n
    · rw [zerosBelow_succ_of_clear h]; omega
    · rw [zerosBelow_succ_of_set h]; omega

end Sys2Proof.Machine
end

