-- ==== Sys2Proof/Laws/PerInstr.lean ====
section
/-! SUPPORT. Statements about every instruction as syntax, one lemma per constructor. -/

/-- The bits of the instruction's encoding fit the width of its format (spec/30_encoding.md R38, R39, R40). -/
def Sys2Proof.Laws.EncodingFits.Statement (i : Sys2Proof.Instr) : Prop :=
  (Sys2Proof.encode i).bits < 2 ^ (Sys2Proof.encode i).width

theorem Sys2Proof.Laws.EncodingFits.idle : Sys2Proof.Laws.EncodingFits.Statement .idle := by unfold Statement; decide
theorem Sys2Proof.Laws.EncodingFits.check : Sys2Proof.Laws.EncodingFits.Statement .check := by unfold Statement; decide
theorem Sys2Proof.Laws.EncodingFits.clz : Sys2Proof.Laws.EncodingFits.Statement .clz := by unfold Statement; decide
theorem Sys2Proof.Laws.EncodingFits.norm : Sys2Proof.Laws.EncodingFits.Statement .norm := by unfold Statement; decide
theorem Sys2Proof.Laws.EncodingFits.half : Sys2Proof.Laws.EncodingFits.Statement .half := by unfold Statement; decide
theorem Sys2Proof.Laws.EncodingFits.seed : Sys2Proof.Laws.EncodingFits.Statement .seed := by unfold Statement; decide
theorem Sys2Proof.Laws.EncodingFits.nr1 : Sys2Proof.Laws.EncodingFits.Statement .nr1 := by unfold Statement; decide
theorem Sys2Proof.Laws.EncodingFits.nr2 : Sys2Proof.Laws.EncodingFits.Statement .nr2 := by unfold Statement; decide
theorem Sys2Proof.Laws.EncodingFits.nr3 : Sys2Proof.Laws.EncodingFits.Statement .nr3 := by unfold Statement; decide
theorem Sys2Proof.Laws.EncodingFits.recon : Sys2Proof.Laws.EncodingFits.Statement .recon := by unfold Statement; decide
theorem Sys2Proof.Laws.EncodingFits.descale : Sys2Proof.Laws.EncodingFits.Statement .descale := by
  unfold Statement; decide
theorem Sys2Proof.Laws.EncodingFits.wb : Sys2Proof.Laws.EncodingFits.Statement .wb := by unfold Statement; decide
theorem Sys2Proof.Laws.EncodingFits.reserved (x : BitVec 2) :
    Sys2Proof.Laws.EncodingFits.Statement (.reserved x) := (0b11#2 ++ x).isLt
theorem Sys2Proof.Laws.EncodingFits.start (d : Sys2Proof.Word) :
    Sys2Proof.Laws.EncodingFits.Statement (.start d) := d.isLt
theorem Sys2Proof.Laws.EncodingFits.sample : Sys2Proof.Laws.EncodingFits.Statement .sample := by
  unfold Statement; decide
theorem Sys2Proof.Laws.EncodingFits.reset : Sys2Proof.Laws.EncodingFits.Statement .reset := by unfold Statement; decide
end

