-- ==== Sys2Proof/Laws/State.lean ====
section
/-! SUPPORT. One lemma per field per named update of State, each true by unfolding, so that no later proof unfolds a
record update. -/

namespace Sys2Proof.Machine

@[simp] theorem State.goto_inReg (s : State) (c : BitVec 4) : (s.goto c).inReg = s.inReg := rfl
@[simp] theorem State.goto_num (s : State) (c : BitVec 4) : (s.goto c).num = s.num := rfl
@[simp] theorem State.goto_lz (s : State) (c : BitVec 4) : (s.goto c).lz = s.lz := rfl
@[simp] theorem State.goto_sb (s : State) (c : BitVec 4) : (s.goto c).sb = s.sb := rfl
@[simp] theorem State.goto_half (s : State) (c : BitVec 4) : (s.goto c).half = s.half := rfl
@[simp] theorem State.goto_temp (s : State) (c : BitVec 4) : (s.goto c).temp = s.temp := rfl
@[simp] theorem State.goto_var1 (s : State) (c : BitVec 4) : (s.goto c).var1 = s.var1 := rfl
@[simp] theorem State.goto_out (s : State) (c : BitVec 4) : (s.goto c).out = s.out := rfl
@[simp] theorem State.goto_err (s : State) (c : BitVec 4) : (s.goto c).err = s.err := rfl
@[simp] theorem State.goto_valid (s : State) (c : BitVec 4) : (s.goto c).valid = s.valid := rfl
@[simp] theorem State.goto_stage (s : State) (c : BitVec 4) : (s.goto c).stage = c := rfl
@[simp] theorem State.goto_resets (s : State) (c : BitVec 4) : (s.goto c).resets = s.resets := rfl
@[simp] theorem State.goto_host (s : State) (c : BitVec 4) : (s.goto c).host = s.host := rfl
@[simp] theorem State.goto_samples (s : State) (c : BitVec 4) : (s.goto c).samples = s.samples := rfl

@[simp] theorem State.setIn_inReg (s : State) (v : Word) : (s.setIn v).inReg = v := rfl
@[simp] theorem State.setIn_num (s : State) (v : Word) : (s.setIn v).num = s.num := rfl
@[simp] theorem State.setIn_lz (s : State) (v : Word) : (s.setIn v).lz = s.lz := rfl
@[simp] theorem State.setIn_sb (s : State) (v : Word) : (s.setIn v).sb = s.sb := rfl
@[simp] theorem State.setIn_half (s : State) (v : Word) : (s.setIn v).half = s.half := rfl
@[simp] theorem State.setIn_temp (s : State) (v : Word) : (s.setIn v).temp = s.temp := rfl
@[simp] theorem State.setIn_var1 (s : State) (v : Word) : (s.setIn v).var1 = s.var1 := rfl
@[simp] theorem State.setIn_out (s : State) (v : Word) : (s.setIn v).out = s.out := rfl
@[simp] theorem State.setIn_err (s : State) (v : Word) : (s.setIn v).err = s.err := rfl
@[simp] theorem State.setIn_valid (s : State) (v : Word) : (s.setIn v).valid = s.valid := rfl
@[simp] theorem State.setIn_stage (s : State) (v : Word) : (s.setIn v).stage = s.stage := rfl
@[simp] theorem State.setIn_resets (s : State) (v : Word) : (s.setIn v).resets = s.resets := rfl
@[simp] theorem State.setIn_host (s : State) (v : Word) : (s.setIn v).host = s.host := rfl
@[simp] theorem State.setIn_samples (s : State) (v : Word) : (s.setIn v).samples = s.samples := rfl

@[simp] theorem State.setNum_inReg (s : State) (v : Word) : (s.setNum v).inReg = s.inReg := rfl
@[simp] theorem State.setNum_num (s : State) (v : Word) : (s.setNum v).num = v := rfl
@[simp] theorem State.setNum_lz (s : State) (v : Word) : (s.setNum v).lz = s.lz := rfl
@[simp] theorem State.setNum_sb (s : State) (v : Word) : (s.setNum v).sb = s.sb := rfl
@[simp] theorem State.setNum_half (s : State) (v : Word) : (s.setNum v).half = s.half := rfl
@[simp] theorem State.setNum_temp (s : State) (v : Word) : (s.setNum v).temp = s.temp := rfl
@[simp] theorem State.setNum_var1 (s : State) (v : Word) : (s.setNum v).var1 = s.var1 := rfl
@[simp] theorem State.setNum_out (s : State) (v : Word) : (s.setNum v).out = s.out := rfl
@[simp] theorem State.setNum_err (s : State) (v : Word) : (s.setNum v).err = s.err := rfl
@[simp] theorem State.setNum_valid (s : State) (v : Word) : (s.setNum v).valid = s.valid := rfl
@[simp] theorem State.setNum_stage (s : State) (v : Word) : (s.setNum v).stage = s.stage := rfl
@[simp] theorem State.setNum_resets (s : State) (v : Word) : (s.setNum v).resets = s.resets := rfl
@[simp] theorem State.setNum_host (s : State) (v : Word) : (s.setNum v).host = s.host := rfl
@[simp] theorem State.setNum_samples (s : State) (v : Word) : (s.setNum v).samples = s.samples := rfl

@[simp] theorem State.setLz_inReg (s : State) (v : BitVec 6) : (s.setLz v).inReg = s.inReg := rfl
@[simp] theorem State.setLz_num (s : State) (v : BitVec 6) : (s.setLz v).num = s.num := rfl
@[simp] theorem State.setLz_lz (s : State) (v : BitVec 6) : (s.setLz v).lz = v := rfl
@[simp] theorem State.setLz_sb (s : State) (v : BitVec 6) : (s.setLz v).sb = s.sb := rfl
@[simp] theorem State.setLz_half (s : State) (v : BitVec 6) : (s.setLz v).half = s.half := rfl
@[simp] theorem State.setLz_temp (s : State) (v : BitVec 6) : (s.setLz v).temp = s.temp := rfl
@[simp] theorem State.setLz_var1 (s : State) (v : BitVec 6) : (s.setLz v).var1 = s.var1 := rfl
@[simp] theorem State.setLz_out (s : State) (v : BitVec 6) : (s.setLz v).out = s.out := rfl
@[simp] theorem State.setLz_err (s : State) (v : BitVec 6) : (s.setLz v).err = s.err := rfl
@[simp] theorem State.setLz_valid (s : State) (v : BitVec 6) : (s.setLz v).valid = s.valid := rfl
@[simp] theorem State.setLz_stage (s : State) (v : BitVec 6) : (s.setLz v).stage = s.stage := rfl
@[simp] theorem State.setLz_resets (s : State) (v : BitVec 6) : (s.setLz v).resets = s.resets := rfl
@[simp] theorem State.setLz_host (s : State) (v : BitVec 6) : (s.setLz v).host = s.host := rfl
@[simp] theorem State.setLz_samples (s : State) (v : BitVec 6) : (s.setLz v).samples = s.samples := rfl

@[simp] theorem State.setSb_inReg (s : State) (v : BitVec 5) : (s.setSb v).inReg = s.inReg := rfl
@[simp] theorem State.setSb_num (s : State) (v : BitVec 5) : (s.setSb v).num = s.num := rfl
@[simp] theorem State.setSb_lz (s : State) (v : BitVec 5) : (s.setSb v).lz = s.lz := rfl
@[simp] theorem State.setSb_sb (s : State) (v : BitVec 5) : (s.setSb v).sb = v := rfl
@[simp] theorem State.setSb_half (s : State) (v : BitVec 5) : (s.setSb v).half = s.half := rfl
@[simp] theorem State.setSb_temp (s : State) (v : BitVec 5) : (s.setSb v).temp = s.temp := rfl
@[simp] theorem State.setSb_var1 (s : State) (v : BitVec 5) : (s.setSb v).var1 = s.var1 := rfl
@[simp] theorem State.setSb_out (s : State) (v : BitVec 5) : (s.setSb v).out = s.out := rfl
@[simp] theorem State.setSb_err (s : State) (v : BitVec 5) : (s.setSb v).err = s.err := rfl
@[simp] theorem State.setSb_valid (s : State) (v : BitVec 5) : (s.setSb v).valid = s.valid := rfl
@[simp] theorem State.setSb_stage (s : State) (v : BitVec 5) : (s.setSb v).stage = s.stage := rfl
@[simp] theorem State.setSb_resets (s : State) (v : BitVec 5) : (s.setSb v).resets = s.resets := rfl
@[simp] theorem State.setSb_host (s : State) (v : BitVec 5) : (s.setSb v).host = s.host := rfl
@[simp] theorem State.setSb_samples (s : State) (v : BitVec 5) : (s.setSb v).samples = s.samples := rfl

@[simp] theorem State.setHalf_inReg (s : State) (v : Word) : (s.setHalf v).inReg = s.inReg := rfl
@[simp] theorem State.setHalf_num (s : State) (v : Word) : (s.setHalf v).num = s.num := rfl
@[simp] theorem State.setHalf_lz (s : State) (v : Word) : (s.setHalf v).lz = s.lz := rfl
@[simp] theorem State.setHalf_sb (s : State) (v : Word) : (s.setHalf v).sb = s.sb := rfl
@[simp] theorem State.setHalf_half (s : State) (v : Word) : (s.setHalf v).half = v := rfl
@[simp] theorem State.setHalf_temp (s : State) (v : Word) : (s.setHalf v).temp = s.temp := rfl
@[simp] theorem State.setHalf_var1 (s : State) (v : Word) : (s.setHalf v).var1 = s.var1 := rfl
@[simp] theorem State.setHalf_out (s : State) (v : Word) : (s.setHalf v).out = s.out := rfl
@[simp] theorem State.setHalf_err (s : State) (v : Word) : (s.setHalf v).err = s.err := rfl
@[simp] theorem State.setHalf_valid (s : State) (v : Word) : (s.setHalf v).valid = s.valid := rfl
@[simp] theorem State.setHalf_stage (s : State) (v : Word) : (s.setHalf v).stage = s.stage := rfl
@[simp] theorem State.setHalf_resets (s : State) (v : Word) : (s.setHalf v).resets = s.resets := rfl
@[simp] theorem State.setHalf_host (s : State) (v : Word) : (s.setHalf v).host = s.host := rfl
@[simp] theorem State.setHalf_samples (s : State) (v : Word) : (s.setHalf v).samples = s.samples := rfl

@[simp] theorem State.setTemp_inReg (s : State) (v : Word) : (s.setTemp v).inReg = s.inReg := rfl
@[simp] theorem State.setTemp_num (s : State) (v : Word) : (s.setTemp v).num = s.num := rfl
@[simp] theorem State.setTemp_lz (s : State) (v : Word) : (s.setTemp v).lz = s.lz := rfl
@[simp] theorem State.setTemp_sb (s : State) (v : Word) : (s.setTemp v).sb = s.sb := rfl
@[simp] theorem State.setTemp_half (s : State) (v : Word) : (s.setTemp v).half = s.half := rfl
@[simp] theorem State.setTemp_temp (s : State) (v : Word) : (s.setTemp v).temp = v := rfl
@[simp] theorem State.setTemp_var1 (s : State) (v : Word) : (s.setTemp v).var1 = s.var1 := rfl
@[simp] theorem State.setTemp_out (s : State) (v : Word) : (s.setTemp v).out = s.out := rfl
@[simp] theorem State.setTemp_err (s : State) (v : Word) : (s.setTemp v).err = s.err := rfl
@[simp] theorem State.setTemp_valid (s : State) (v : Word) : (s.setTemp v).valid = s.valid := rfl
@[simp] theorem State.setTemp_stage (s : State) (v : Word) : (s.setTemp v).stage = s.stage := rfl
@[simp] theorem State.setTemp_resets (s : State) (v : Word) : (s.setTemp v).resets = s.resets := rfl
@[simp] theorem State.setTemp_host (s : State) (v : Word) : (s.setTemp v).host = s.host := rfl
@[simp] theorem State.setTemp_samples (s : State) (v : Word) : (s.setTemp v).samples = s.samples := rfl

@[simp] theorem State.setVar1_inReg (s : State) (v : Word) : (s.setVar1 v).inReg = s.inReg := rfl
@[simp] theorem State.setVar1_num (s : State) (v : Word) : (s.setVar1 v).num = s.num := rfl
@[simp] theorem State.setVar1_lz (s : State) (v : Word) : (s.setVar1 v).lz = s.lz := rfl
@[simp] theorem State.setVar1_sb (s : State) (v : Word) : (s.setVar1 v).sb = s.sb := rfl
@[simp] theorem State.setVar1_half (s : State) (v : Word) : (s.setVar1 v).half = s.half := rfl
@[simp] theorem State.setVar1_temp (s : State) (v : Word) : (s.setVar1 v).temp = s.temp := rfl
@[simp] theorem State.setVar1_var1 (s : State) (v : Word) : (s.setVar1 v).var1 = v := rfl
@[simp] theorem State.setVar1_out (s : State) (v : Word) : (s.setVar1 v).out = s.out := rfl
@[simp] theorem State.setVar1_err (s : State) (v : Word) : (s.setVar1 v).err = s.err := rfl
@[simp] theorem State.setVar1_valid (s : State) (v : Word) : (s.setVar1 v).valid = s.valid := rfl
@[simp] theorem State.setVar1_stage (s : State) (v : Word) : (s.setVar1 v).stage = s.stage := rfl
@[simp] theorem State.setVar1_resets (s : State) (v : Word) : (s.setVar1 v).resets = s.resets := rfl
@[simp] theorem State.setVar1_host (s : State) (v : Word) : (s.setVar1 v).host = s.host := rfl
@[simp] theorem State.setVar1_samples (s : State) (v : Word) : (s.setVar1 v).samples = s.samples := rfl

@[simp] theorem State.setValid_inReg (s : State) (v : BitVec 1) : (s.setValid v).inReg = s.inReg := rfl
@[simp] theorem State.setValid_num (s : State) (v : BitVec 1) : (s.setValid v).num = s.num := rfl
@[simp] theorem State.setValid_lz (s : State) (v : BitVec 1) : (s.setValid v).lz = s.lz := rfl
@[simp] theorem State.setValid_sb (s : State) (v : BitVec 1) : (s.setValid v).sb = s.sb := rfl
@[simp] theorem State.setValid_half (s : State) (v : BitVec 1) : (s.setValid v).half = s.half := rfl
@[simp] theorem State.setValid_temp (s : State) (v : BitVec 1) : (s.setValid v).temp = s.temp := rfl
@[simp] theorem State.setValid_var1 (s : State) (v : BitVec 1) : (s.setValid v).var1 = s.var1 := rfl
@[simp] theorem State.setValid_out (s : State) (v : BitVec 1) : (s.setValid v).out = s.out := rfl
@[simp] theorem State.setValid_err (s : State) (v : BitVec 1) : (s.setValid v).err = s.err := rfl
@[simp] theorem State.setValid_valid (s : State) (v : BitVec 1) : (s.setValid v).valid = v := rfl
@[simp] theorem State.setValid_stage (s : State) (v : BitVec 1) : (s.setValid v).stage = s.stage := rfl
@[simp] theorem State.setValid_resets (s : State) (v : BitVec 1) : (s.setValid v).resets = s.resets := rfl
@[simp] theorem State.setValid_host (s : State) (v : BitVec 1) : (s.setValid v).host = s.host := rfl
@[simp] theorem State.setValid_samples (s : State) (v : BitVec 1) : (s.setValid v).samples = s.samples := rfl

@[simp] theorem State.publish_inReg (s : State) (o : Word) (e : BitVec 1) : (s.publish o e).inReg = s.inReg := rfl
@[simp] theorem State.publish_num (s : State) (o : Word) (e : BitVec 1) : (s.publish o e).num = s.num := rfl
@[simp] theorem State.publish_lz (s : State) (o : Word) (e : BitVec 1) : (s.publish o e).lz = s.lz := rfl
@[simp] theorem State.publish_sb (s : State) (o : Word) (e : BitVec 1) : (s.publish o e).sb = s.sb := rfl
@[simp] theorem State.publish_half (s : State) (o : Word) (e : BitVec 1) : (s.publish o e).half = s.half := rfl
@[simp] theorem State.publish_temp (s : State) (o : Word) (e : BitVec 1) : (s.publish o e).temp = s.temp := rfl
@[simp] theorem State.publish_var1 (s : State) (o : Word) (e : BitVec 1) : (s.publish o e).var1 = s.var1 := rfl
@[simp] theorem State.publish_out (s : State) (o : Word) (e : BitVec 1) : (s.publish o e).out = o := rfl
@[simp] theorem State.publish_err (s : State) (o : Word) (e : BitVec 1) : (s.publish o e).err = e := rfl
@[simp] theorem State.publish_valid (s : State) (o : Word) (e : BitVec 1) : (s.publish o e).valid = 1#1 := rfl
@[simp] theorem State.publish_stage (s : State) (o : Word) (e : BitVec 1) : (s.publish o e).stage = codeIdle := rfl
@[simp] theorem State.publish_resets (s : State) (o : Word) (e : BitVec 1) : (s.publish o e).resets = s.resets := rfl
@[simp] theorem State.publish_host (s : State) (o : Word) (e : BitVec 1) : (s.publish o e).host = s.host := rfl
@[simp] theorem State.publish_samples (s : State) (o : Word) (e : BitVec 1) : (s.publish o e).samples = s.samples := rfl

@[simp] theorem State.raiseArgumentError_inReg (s : State) : s.raiseArgumentError.inReg = s.inReg := rfl
@[simp] theorem State.raiseArgumentError_num (s : State) : s.raiseArgumentError.num = s.num := rfl
@[simp] theorem State.raiseArgumentError_lz (s : State) : s.raiseArgumentError.lz = s.lz := rfl
@[simp] theorem State.raiseArgumentError_sb (s : State) : s.raiseArgumentError.sb = s.sb := rfl
@[simp] theorem State.raiseArgumentError_half (s : State) : s.raiseArgumentError.half = s.half := rfl
@[simp] theorem State.raiseArgumentError_temp (s : State) : s.raiseArgumentError.temp = s.temp := rfl
@[simp] theorem State.raiseArgumentError_var1 (s : State) : s.raiseArgumentError.var1 = s.var1 := rfl
@[simp] theorem State.raiseArgumentError_out (s : State) : s.raiseArgumentError.out = errorResult := rfl
@[simp] theorem State.raiseArgumentError_err (s : State) : s.raiseArgumentError.err = statusArgumentError := rfl
@[simp] theorem State.raiseArgumentError_valid (s : State) : s.raiseArgumentError.valid = 1#1 := rfl
@[simp] theorem State.raiseArgumentError_stage (s : State) : s.raiseArgumentError.stage = codeIdle := rfl
@[simp] theorem State.raiseArgumentError_resets (s : State) : s.raiseArgumentError.resets = s.resets := rfl
@[simp] theorem State.raiseArgumentError_host (s : State) : s.raiseArgumentError.host = s.host := rfl
@[simp] theorem State.raiseArgumentError_samples (s : State) : s.raiseArgumentError.samples = s.samples := rfl

@[simp] theorem State.forgetInternals_inReg (s : State) : s.forgetInternals.inReg = Config.freeIn s.resets := rfl
@[simp] theorem State.forgetInternals_num (s : State) : s.forgetInternals.num = Config.freeNum s.resets := rfl
@[simp] theorem State.forgetInternals_lz (s : State) : s.forgetInternals.lz = Config.freeLz s.resets := rfl
@[simp] theorem State.forgetInternals_sb (s : State) : s.forgetInternals.sb = Config.freeSb s.resets := rfl
@[simp] theorem State.forgetInternals_half (s : State) : s.forgetInternals.half = Config.freeHalf s.resets := rfl
@[simp] theorem State.forgetInternals_temp (s : State) : s.forgetInternals.temp = Config.freeTemp s.resets := rfl
@[simp] theorem State.forgetInternals_var1 (s : State) : s.forgetInternals.var1 = Config.freeVar1 s.resets := rfl
@[simp] theorem State.forgetInternals_out (s : State) : s.forgetInternals.out = s.out := rfl
@[simp] theorem State.forgetInternals_err (s : State) : s.forgetInternals.err = s.err := rfl
@[simp] theorem State.forgetInternals_valid (s : State) : s.forgetInternals.valid = s.valid := rfl
@[simp] theorem State.forgetInternals_stage (s : State) : s.forgetInternals.stage = s.stage := rfl
@[simp] theorem State.forgetInternals_resets (s : State) : s.forgetInternals.resets = s.resets + 1 := rfl
@[simp] theorem State.forgetInternals_host (s : State) : s.forgetInternals.host = s.host := rfl
@[simp] theorem State.forgetInternals_samples (s : State) : s.forgetInternals.samples = s.samples := rfl

@[simp] theorem State.note_inReg (s : State) (o : Sample) : (s.note o).inReg = s.inReg := rfl
@[simp] theorem State.note_num (s : State) (o : Sample) : (s.note o).num = s.num := rfl
@[simp] theorem State.note_lz (s : State) (o : Sample) : (s.note o).lz = s.lz := rfl
@[simp] theorem State.note_sb (s : State) (o : Sample) : (s.note o).sb = s.sb := rfl
@[simp] theorem State.note_half (s : State) (o : Sample) : (s.note o).half = s.half := rfl
@[simp] theorem State.note_temp (s : State) (o : Sample) : (s.note o).temp = s.temp := rfl
@[simp] theorem State.note_var1 (s : State) (o : Sample) : (s.note o).var1 = s.var1 := rfl
@[simp] theorem State.note_out (s : State) (o : Sample) : (s.note o).out = s.out := rfl
@[simp] theorem State.note_err (s : State) (o : Sample) : (s.note o).err = s.err := rfl
@[simp] theorem State.note_valid (s : State) (o : Sample) : (s.note o).valid = s.valid := rfl
@[simp] theorem State.note_stage (s : State) (o : Sample) : (s.note o).stage = s.stage := rfl
@[simp] theorem State.note_resets (s : State) (o : Sample) : (s.note o).resets = s.resets := rfl
@[simp] theorem State.note_host (s : State) (o : Sample) : (s.note o).host = s.host := rfl
@[simp] theorem State.note_samples (s : State) (o : Sample) : (s.note o).samples = o :: s.samples := rfl

@[simp] theorem State.afterFetch_inReg (s : State) : s.afterFetch.inReg = s.inReg := rfl
@[simp] theorem State.afterFetch_num (s : State) : s.afterFetch.num = s.num := rfl
@[simp] theorem State.afterFetch_lz (s : State) : s.afterFetch.lz = s.lz := rfl
@[simp] theorem State.afterFetch_sb (s : State) : s.afterFetch.sb = s.sb := rfl
@[simp] theorem State.afterFetch_half (s : State) : s.afterFetch.half = s.half := rfl
@[simp] theorem State.afterFetch_temp (s : State) : s.afterFetch.temp = s.temp := rfl
@[simp] theorem State.afterFetch_var1 (s : State) : s.afterFetch.var1 = s.var1 := rfl
@[simp] theorem State.afterFetch_out (s : State) : s.afterFetch.out = s.out := rfl
@[simp] theorem State.afterFetch_err (s : State) : s.afterFetch.err = s.err := rfl
@[simp] theorem State.afterFetch_valid (s : State) : s.afterFetch.valid = s.valid := rfl
@[simp] theorem State.afterFetch_stage (s : State) : s.afterFetch.stage = s.stage := rfl
@[simp] theorem State.afterFetch_resets (s : State) : s.afterFetch.resets = s.resets := rfl
@[simp] theorem State.afterFetch_host (s : State) : s.afterFetch.host = s.host.tail := rfl
@[simp] theorem State.afterFetch_samples (s : State) : s.afterFetch.samples = s.samples := rfl

end Sys2Proof.Machine
end

