-- ==== Sys2Proof/Laws/Step.lean ====
section
/-! SUPPORT. What the selection of an instruction, one execution and several steps can do, said once. -/

namespace Sys2Proof.Machine

/-! ## Selection -/

/-- Reset wins over everything else. -/
theorem select_of_rst {p : InPorts} (h : p.rst = 1#1) (c : BitVec 4) : select p c = .rst := by
  simp [select, h]

/-- An operand shown to an idle CORE is taken. -/
theorem select_of_operand {p : InPorts} (hr : p.rst ≠ 1#1) (hv : p.opValid = 1#1) :
    select p codeIdle = .operand p.opData := by
  simp [select, hr, hv]

/-- Otherwise the sequencer moves. -/
theorem select_of_stage {p : InPorts} {c : BitVec 4} (hr : p.rst ≠ 1#1) (h : p.opValid ≠ 1#1 ∨ c ≠ codeIdle) :
    select p c = .stage c := by
  unfold select
  rw [if_neg hr, if_neg (by tauto)]

/-- Everything a selection can answer. -/
theorem select_cases (p : InPorts) (c : BitVec 4) :
    select p c = .rst ∨ (c = codeIdle ∧ select p c = .operand p.opData) ∨ select p c = .stage c := by
  unfold select
  split
  · exact .inl rfl
  · split
    · rename_i h
      exact .inr (.inl ⟨h.2, rfl⟩)
    · exact .inr (.inr rfl)

/-- Everything a fetch can answer: a look of the host, a reset, an operand in IDLE, or the stage. -/
theorem fetch_cases (s : State) :
    s.fetch = .look ∨ s.fetch = .rst ∨ (s.stage = codeIdle ∧ ∃ d, s.fetch = .operand d) ∨ s.fetch = .stage s.stage := by
  unfold State.fetch
  split
  · rcases select_cases quietPorts s.stage with h | ⟨h, h'⟩ | h
    · exact .inr (.inl h)
    · exact .inr (.inr (.inl ⟨h, _, h'⟩))
    · exact .inr (.inr (.inr h))
  · rename_i p _ _
    rcases select_cases p s.stage with h | ⟨h, h'⟩ | h
    · exact .inr (.inl h)
    · exact .inr (.inr (.inl ⟨h, _, h'⟩))
    · exact .inr (.inr (.inr h))
  · exact .inl rfl

/-- A step that is the sequencer's fetches the stage. -/
theorem fetch_of_sequencerMoves {s : State} (h : s.sequencerMoves) : s.fetch = .stage s.stage := by
  rcases h with h | ⟨p, rest, h, hr, hv⟩
  · simp only [State.fetch, h]
    exact select_of_stage (by decide) (.inl (by decide))
  · simp only [State.fetch, h]
    exact select_of_stage (by rw [hr]; decide) (hv.imp (fun hv => by rw [hv]; decide) id)

/-- A placed encoding is what the next step fetches. -/
theorem place_fetch (s : State) (e : Encoding) : (s.place e).fetch = e := by
  cases e with
  | stage c => simp [State.place, State.fetch, select]
  | operand w => simp [State.place, State.fetch, select]
  | rst => simp [State.place, State.fetch, select]
  | look => rfl

/-- Once it is fetched, only STAGE may differ from the state it was placed in. -/
theorem place_afterFetch (s : State) (e : Encoding) : (s.place e).afterFetch = s.placed e := by
  cases e <;> rfl

/-! ## Execution -/

/-- An instruction that is no reserved code has a next state. -/
theorem exec_next_of_wellFormed (i : Instr) (s : State) (h : ∀ x, i ≠ .reserved x) : ∃ t, exec i s = .next t := by
  cases i with
  | reserved x => exact absurd rfl (h x)
  | check => simp only [exec, execCheck]; split <;> exact ⟨_, rfl⟩
  | start d => simp only [exec, execStart]; split <;> exact ⟨_, rfl⟩
  | _ => exact ⟨_, rfl⟩

/-- No instruction is refused. -/
theorem exec_not_refused (i : Instr) (s : State) (r : Refusal) : exec i s ≠ .refused r := by
  cases i with
  | check => simp only [exec, execCheck]; split <;> simp
  | start d => simp only [exec, execStart]; split <;> simp
  | _ => simp [exec, execIdle, execClz, execNorm, execHalf, execSeed, execNr1, execNr2, execNr3, execRecon,
      execDescale, execWb, execReserved, execSample, execReset]

/-- A fault is that of a reserved code. -/
theorem exec_fault_cases {i : Instr} {s : State} {f : Fault} (h : exec i s = .fault f) :
    ∃ x, i = .reserved x ∧ f = .stuckReservedStage x := by
  by_cases hi : ∃ x, i = .reserved x
  · obtain ⟨x, rfl⟩ := hi
    refine ⟨x, rfl, ?_⟩
    simpa [exec, execReserved] using h.symm
  · obtain ⟨t, ht⟩ := exec_next_of_wellFormed i s (fun x hx => hi ⟨x, hx⟩)
    rw [ht] at h
    cases h

/-! ## Several steps -/

/-- No steps. -/
@[simp] theorem run_zero (s : State) : Host.Core.run Sys2Proof.core 0 s = .next s := rfl

/-- A first step that answers a next state, then the others. -/
theorem run_succ_of_next {s t : State} (h : step s = .next t) (n : Nat) :
    Host.Core.run Sys2Proof.core (n + 1) s = Host.Core.run Sys2Proof.core n t := by
  have h' : Sys2Proof.core.step s = .next t := h
  simp only [Host.Core.run, h']

/-- A first step that faults ends the run. -/
theorem run_succ_of_fault {s : State} {r : Fault} (h : step s = .fault r) (n : Nat) :
    Host.Core.run Sys2Proof.core (n + 1) s = .fault r := by
  have h' : Sys2Proof.core.step s = .fault r := h
  simp only [Host.Core.run, h']

/-- Runs compose. -/
theorem run_add_of_next {s t : State} {m : Nat} (h : Host.Core.run Sys2Proof.core m s = .next t) (n : Nat) :
    Host.Core.run Sys2Proof.core (m + n) s = Host.Core.run Sys2Proof.core n t := by
  induction m generalizing s with
  | zero =>
    cases h
    rw [Nat.zero_add]
  | succ m ih =>
    rw [Nat.succ_add]
    cases hs : step s with
    | next u =>
      rw [run_succ_of_next hs] at h ⊢
      exact ih h
    | fault r =>
      rw [run_succ_of_fault hs] at h
      cases h
    | refused r =>
      exact absurd hs (exec_not_refused _ _ r)

end Sys2Proof.Machine
end

