-- ==== Sys2Proof/Tests/Slice0.lean ====
section
/-! SUPPORT. Small tests of the model: the well-formedness check, words written out from the encoding tables, one or
two vectors of spec/95_test_vectors.md per instruction (the vector's id stands in the comment), and for every
statement with hypotheses a state and operands that meet them. -/

namespace Sys2Proof.Tests

open Sys2Proof.Machine

/-- One part of the next state, none after a fault or a refusal. -/
def after {α : Type} (r : Result) (f : State → α) : Option α :=
  match r with
  | .next s => some (f s)
  | .fault _ => none
  | .refused _ => none

/-- A state with a stage code. -/
def at_ (c : BitVec 4) : State := { State.reset with stage := c }

/-- An idle state that holds the result of 0.5 (P1 of spec/95_test_vectors.md). -/
def idleWithResult : State :=
  { State.reset with inReg := 0x40000000#32, out := 0x5A82799C#32, valid := 1#1 }

/-! ## Well-formedness -/

/-- The reserved codes are refused (R42). -/
theorem test_wellFormed_refuses_reserved : (Instr.reserved 0#2).wellFormed = false := by decide

/-- A stage is accepted. -/
theorem test_wellFormed_accepts_wb : Instr.wb.wellFormed = true := by decide

/-- Every START payload is accepted (R40). -/
theorem test_wellFormed_accepts_start : (Instr.start 0x80000000#32).wellFormed = true := by decide

/-! ## Words written out from the tables of spec/30_encoding.md -/

theorem test_decode_idle : decode (.stage 0b0000#4) = .idle := by decide
theorem test_decode_check : decode (.stage 0b0001#4) = .check := by decide
theorem test_decode_clz : decode (.stage 0b0010#4) = .clz := by decide
theorem test_decode_norm : decode (.stage 0b0011#4) = .norm := by decide
theorem test_decode_half : decode (.stage 0b0100#4) = .half := by decide
theorem test_decode_seed : decode (.stage 0b0101#4) = .seed := by decide
theorem test_decode_nr1 : decode (.stage 0b0110#4) = .nr1 := by decide
theorem test_decode_nr2 : decode (.stage 0b0111#4) = .nr2 := by decide
theorem test_decode_nr3 : decode (.stage 0b1000#4) = .nr3 := by decide
theorem test_decode_recon : decode (.stage 0b1001#4) = .recon := by decide
theorem test_decode_descale : decode (.stage 0b1010#4) = .descale := by decide
theorem test_decode_wb : decode (.stage 0b1011#4) = .wb := by decide
theorem test_decode_reserved_low : decode (.stage 0b1100#4) = .reserved 0#2 := by decide
theorem test_decode_reserved_high : decode (.stage 0b1111#4) = .reserved 3#2 := by decide
theorem test_decode_start : decodeBits 32 0x40000000 = .ok (.start 0x40000000#32) := by decide
theorem test_decode_reset : decode .rst = .reset := by decide
theorem test_decode_sample : decode .look = .sample := by decide

/-- A byte with a bit above the four of format U is rejected by name. -/
theorem test_decode_rejects_wide_code : decodeBits 8 0x1B = .error (.stageCodeTooWide 0x1B) := by decide

/-- No format of the spec has 16 bits. -/
theorem test_decode_rejects_width : decodeBits 16 1 = .error (.noSuchWidth 16) := by decide

/-- A start word with a bit above bit 31 is rejected by name. -/
theorem test_decode_rejects_wide_operand : decodeBits 32 (2 ^ 32) = .error (.operandTooWide (2 ^ 32)) := by decide

/-- The port rst at 0 is no reset. -/
theorem test_decode_rejects_rst_low : decodeBits 1 0 = .error (.rstNotAsserted 0) := by decide

/-- SAMPLE carries no bits. -/
theorem test_decode_rejects_sample_bits : decodeBits 0 1 = .error (.sampleCarriesBits 1) := by decide

/-! ## Vectors of spec/95_test_vectors.md -/

/-- C1: CHECK on zero. -/
theorem test_check_zero :
    after (exec .check { at_ codeCheck with inReg := 0x00000000#32, out := 0x5A82799C#32 })
      (fun s => (s.out, s.err, s.valid, s.stage)) = some (0x00000000#32, 1#1, 1#1, codeIdle) := by decide

/-- C7: CHECK on the largest legal operand. -/
theorem test_check_largest :
    after (exec .check { at_ codeCheck with inReg := 0x7FFFFFFF#32 }) (fun s => (s.num, s.valid, s.stage))
      = some (0x7FFFFFFF#32, 0#1, codeClz) := by decide

/-- R52, example: CLZ on the smallest legal operand. -/
theorem test_clz_one :
    after (exec .clz { at_ codeClz with num := 0x00000001#32 }) (fun s => (s.lz, s.stage)) = some (31#6, codeNorm) := by
  decide

/-- N2: NORM with an odd signBits. -/
theorem test_norm_odd :
    after (exec .norm { at_ codeNorm with lz := 30#6, num := 0x00000002#32 }) (fun s => (s.sb, s.num, s.stage))
      = some (29#5, 0x20000000#32, codeHalf) := by decide

/-- N14: NORM with an even signBits. -/
theorem test_norm_even :
    after (exec .norm { at_ codeNorm with lz := 3#6, num := 0x1FFFFFFF#32 }) (fun s => (s.sb, s.num, s.stage))
      = some (2#5, 0x7FFFFFFC#32, codeHalf) := by decide

/-- H3: HALF drops bit 0 of NUM. -/
theorem test_half_odd :
    after (exec .half { at_ codeHalf with num := 0x7FFFFFFF#32 }) (fun s => (s.half, s.temp, s.stage))
      = some (0x3FFFFFFF#32, 0x7FFFFFFF#32, codeSeed) := by decide

/-- Table 2.2: a tie with an odd significand goes up. -/
theorem test_seed_tie_odd :
    after (exec .seed { at_ codeSeed with num := 0x400000C0#32 }) (fun s => (s.var1, s.stage))
      = some (0x5BACEF00#32, codeNr1) := by decide

/-- Table 2.2: the rounding carry into the next binade. -/
theorem test_seed_carry :
    after (exec .seed { at_ codeSeed with num := 0x7FFFFFC0#32 }) (fun s => (s.var1, s.stage))
      = some (0x3DD677C0#32, codeNr1) := by decide

/-- Table 2.3, row 6: the largest result. -/
theorem test_nr_largest : nr 0x7FFFDBF4#32 0x10000000#32 = 0x7FFFFFFC#32 := by decide

/-- Table 2.3, row 4. -/
theorem test_nr1 :
    after (exec .nr1 { at_ codeNr1 with var1 := 0x7BACEF80#32, half := 0x10000000#32 }) (fun s => (s.var1, s.stage))
      = some (0x7FC88758#32, codeNr2) := by decide

/-- Table 2.3, row 8. -/
theorem test_nr2 :
    after (exec .nr2 { at_ codeNr2 with var1 := 0x3FE443AC#32, half := 0x3FFFFFFF#32 }) (fun s => (s.var1, s.stage))
      = some (0x3FFFEDFC#32, codeNr3) := by decide

/-- Table 2.3, row 12. -/
theorem test_nr3 :
    after (exec .nr3 { at_ codeNr3 with var1 := 0x54DA457C#32, half := 0x2468ACF0#32 }) (fun s => (s.var1, s.stage))
      = some (0x54DA5204#32, codeRecon) := by decide

/-- R7 of table 3.7. -/
theorem test_recon :
    after (exec .recon { at_ codeRecon with temp := 0x3FFFFFFF#32, var1 := 0x5A82799C#32 })
      (fun s => (s.var1, s.stage)) = some (0x5A82799A#32, codeDescale) := by decide

/-- X11: DESCALE with an odd signBits. -/
theorem test_descale_odd :
    after (exec .descale { at_ codeDescale with sb := 29#5, var1 := 0x3FFFFFFE#32 }) (fun s => (s.var1, s.stage))
      = some (0x0000FFFF#32, codeWb) := by decide

/-- X13: the largest shift. -/
theorem test_descale_largest :
    after (exec .descale { at_ codeDescale with sb := 30#5, var1 := 0x5A82799C#32 }) (fun s => (s.var1, s.stage))
      = some (0x0000B504#32, codeWb) := by decide

/-- W2: WB after a failed operation. -/
theorem test_wb_clears_err :
    after (exec .wb { at_ codeWb with var1 := 0x0000FFFF#32, err := 1#1 })
      (fun s => (s.out, s.err, s.valid, s.stage)) = some (0x0000FFFF#32, 0#1, 1#1, codeIdle) := by decide

/-- T2: START keeps OUT and ERR and clears VALID. -/
theorem test_start_idle :
    after (exec (.start 0x00000002#32) idleWithResult) (fun s => (s.inReg, s.valid, s.stage, s.out, s.err))
      = some (0x00000002#32, 0#1, codeCheck, 0x5A82799C#32, 0#1) := by decide

/-- T4: a busy CORE takes no operand and does not remember it. -/
theorem test_start_busy : exec (.start 0x00000009#32) (at_ codeNr2) = .next (at_ codeNr2) := by rfl

/-- T3: stale data, marked not valid, busy. -/
theorem test_sample_busy :
    after (exec .sample { at_ codeCheck with out := 0x5A82799C#32 }) (fun s => s.samples)
      = some [{ resValid := 0#1, resData := 0x5A82799C#32, resStatus := 0#1, busy := 1#1 }] := by decide

/-- T6: RESET in flight. -/
theorem test_reset_in_flight :
    after (exec .reset { at_ codeNr2 with out := 0x5A82799C#32 }) (fun s => (s.stage, s.valid, s.err, s.out))
      = some (codeIdle, 0#1, 0#1, 0x00000000#32) := by rfl

/-- U11: a reserved code is stuck. -/
theorem test_reserved_stuck : step (at_ 0b1101#4) = .fault (.stuckReservedStage 1#2) := by rfl

/-- R47, example: an idle CORE stays as it is. -/
theorem test_idle_stays : step State.reset = .next State.reset := by rfl

/-- T9 through the ports: the first step after reset takes an operand that the host presents. -/
theorem test_first_step_start :
    after (step (State.reset.withFetchWord 32 0x80000000)) (fun s => (s.inReg, s.valid, s.stage, s.host))
      = some (0x80000000#32, 0#1, codeCheck, []) := by decide

/-- A stage code placed in STAGE is what the first step runs: CLZ of the reset state's NUM. -/
theorem test_first_step_clz :
    after (step (State.reset.withFetchWord 8 2)) (fun s => (s.lz, s.stage, s.host)) = some (32#6, codeNorm, []) := by
  decide

/-! ## States and operands that meet the hypotheses of the statements -/

theorem witness_StageDecodingIsIdentity :
    encode .wb = .stage 0b1011#4 ∧ State.reset.host = [] := by decide

theorem witness_DecodeEncodeAgree :
    decodeBits 8 0b1111 = .ok (.reserved 3#2) ∧ decodeBits 4 0 = .ok .idle
      ∧ decodeBits 32 (2 ^ 32 - 1) = .ok (.start 0xFFFFFFFF#32) := by decide

/-- A state for each clause of StepRunsDecodedInstruction. -/
theorem witness_StepRunsDecodedInstruction :
    State.reset.host = []
    ∧ ({ State.reset with host := [.sample] } : State).host = .sample :: []
    ∧ ({ State.reset with host := [.drive { rst := 1#1, opValid := 1#1, opData := 5#32 }] } : State).host
        = .drive { rst := 1#1, opValid := 1#1, opData := 5#32 } :: []
    ∧ (startPorts 5#32).rst = 0#1 ∧ (startPorts 5#32).opValid = 1#1 ∧ State.reset.stage = codeIdle
    ∧ quietPorts.rst = 0#1 ∧ quietPorts.opValid = 0#1 ∧ (at_ codeWb).stage ≠ codeIdle := by decide

theorem witness_PlacedWordRunsNext :
    decodeTableWord 8 11 = some .wb ∧ decodeTableWord 32 0 = some (.start 0#32) ∧ decodeTableWord 0 0 = some .sample
      ∧ decodeTableWord 1 1 = some .reset := by decide

theorem witness_IdleKeepsTheState :
    State.reset.stage = codeIdle ∧ State.reset.host = [] ∧ quietPorts.rst = 0#1 ∧ quietPorts.opValid = 0#1
    ∧ (∃ t, exec .wb (at_ codeWb) = .next t)
    ∧ sint (at_ codeCheck).inReg ≤ 0 ∧ (∃ t, exec .check (at_ codeCheck) = .next t)
    ∧ (∃ t, exec .reset { State.reset with host := [.sample, .sample] } = .next t
        ∧ t.host = List.replicate 2 .sample) := by
  refine ⟨rfl, rfl, rfl, rfl, ⟨_, rfl⟩, by decide, ⟨_, rfl⟩, ⟨_, rfl, rfl⟩⟩

/-- The boundary operands of CHECK: 0 is illegal, 1 is legal, the most negative word is illegal. -/
theorem witness_CheckRejectsOrAccepts :
    sint (0x00000000#32) ≤ 0 ∧ 0 < sint (0x00000001#32) ∧ sint (0x80000000#32) ≤ 0 ∧ 0 < sint (0x7FFFFFFF#32) := by
  decide

theorem witness_ArgumentErrorFromCheckOnly :
    ∃ t, exec .check (at_ codeCheck) = .next t ∧ (at_ codeCheck).err = 0#1 ∧ t.err = 1#1 := ⟨_, rfl, rfl, rfl⟩

theorem witness_ReservedStagesStuckAndUnreachable :
    12 ≤ uint (0b1100#4) ∧ uint (at_ codeWb).stage ≤ 11 ∧ (∃ t, step (at_ codeWb) = .next t) :=
  ⟨by decide, by decide, ⟨_, rfl⟩⟩

/-- A quiet host, a busy CORE under a presented operand, and a START. -/
theorem witness_StageSuccessors :
    (at_ codeWb).sequencerMoves ∧ (∃ t, step (at_ codeWb) = .next t) ∧ uint (at_ codeWb).stage ≤ 11
    ∧ ({ at_ codeWb with host := [.drive (startPorts 9#32)] } : State).sequencerMoves
    ∧ (∃ t, step { at_ codeWb with host := [.drive (startPorts 9#32)] } = .next t)
    ∧ ({ State.reset with host := [.drive quietPorts] } : State).sequencerMoves
    ∧ (∃ t, step { State.reset with host := [.drive (startPorts 5#32)] } = .next t ∧ t.stage ≠ codeIdle) :=
  ⟨.inl rfl, ⟨_, rfl⟩, by decide, .inr ⟨_, _, rfl, rfl, .inr (by decide)⟩, ⟨_, rfl⟩,
    .inr ⟨_, _, rfl, rfl, .inl rfl⟩, ⟨_, rfl, by decide⟩⟩

theorem witness_LeadingZeroCount : (0x00000001#32 : Word) ≠ 0#32 ∧ 30 < clz32 0x00000001#32 := by decide

theorem witness_ClzCountsIntoLz : 0 < sint ({ State.reset with num := 0x00000001#32 } : State).num := by decide

/-- The two ends of NORM's range, and an operand whose count LZ holds. -/
theorem witness_NormShiftsByAnEvenAmount :
    1 ≤ uint (1#6) ∧ uint (31#6) ≤ 31 ∧ 0 < sint (0x00000001#32) ∧ uint (31#6) = clz32 0x00000001#32
      ∧ uint (1#6) = clz32 0x7FFFFFFF#32 := by decide

theorem witness_NormalisedNumberRange :
    legalOperand 0x00000001#32 ∧ opSb 0x00000001#32 % 2 = 0 ∧ legalOperand 0x00000002#32
      ∧ opSb 0x00000002#32 % 2 = 1 ∧ normalised 0x20000000#32 ∧ normalised 0x7FFFFFFF#32 := by decide

theorem witness_HalfAndTempFromNum :
    0 < sint (0x00000001#32) ∧ normalised 0x20000000#32 ∧ normalised 0x7FFFFFFF#32 := by decide

/-- The example of SEED, and the two ends of its domain. -/
theorem witness_SeedWritesVar1 :
    ({ at_ codeSeed with num := 0x40000000#32 } : State).num = 0x40000000#32
    ∧ normalised ({ at_ codeSeed with num := 0x40000000#32 } : State).num
    ∧ normalised ({ at_ codeSeed with num := 0x20000000#32 } : State).num
    ∧ normalised ({ at_ codeSeed with num := 0x7FFFFFFF#32 } : State).num := by decide

/-- A pattern with bit 31 set. -/
theorem witness_SeedCompletesOnEveryNum : (0x80000000#32 : Word).getLsbD 31 = true := by decide

/-- A busy CORE to whom an operand is presented. -/
theorem witness_BusyStartChangesNothing :
    ({ at_ codeNr2 with host := [.drive (startPorts 9#32)] } : State).stage ≠ codeIdle
    ∧ ({ at_ codeNr2 with host := [.drive (startPorts 9#32)] } : State).fetch = .stage codeNr2 := by decide

/-- A tie, the two binades and the carry. -/
theorem witness_IntegerToBinary32RoundsToNearestEven :
    normalised 0x20000000#32 ∧ normalised 0x40000040#32
      ∧ 2 * (sint (0x40000040#32) - (2 ^ 23 + (fracField (i2f 0x40000040#32) : Int))
          * 2 ^ (expField (i2f 0x40000040#32) - 119)) = 128
      ∧ 0x7FFFFFC0 ≤ sint (0x7FFFFFC0#32) ∧ 0x3FFFFFE0 ≤ sint (0x3FFFFFFF#32)
      ∧ sint (0x3FFFFFFF#32) ≤ 0x3FFFFFFF := by decide

theorem witness_MagicTransform : (0x3F000000#32 : Word).getLsbD 31 = false ∧ normalised 0x20000000#32 := by decide

/-- The two ends of the exponent range of `f2q`. -/
theorem witness_Binary32ToFixedPoint :
    (0x3C000000#32 : Word).getLsbD 31 = false ∧ 120 = uint (0x3C000000#32) / 2 ^ 23 % 2 ^ 8
      ∧ (0x3FFFFFFF#32 : Word).getLsbD 31 = false ∧ 127 = uint (0x3FFFFFFF#32) / 2 ^ 23 % 2 ^ 8 := by decide

theorem witness_SeedRangeAndOrder :
    normalised 0x20000000#32 ∧ normalised 0x7FFFFFFF#32 ∧ sint (0x20000000#32) ≤ sint (0x7FFFFFFF#32) := by decide

/-- Row 1 of table 2.3 meets the four equations of NewtonUpdateFormula. -/
theorem witness_NewtonUpdateFormula :
    (0x41A8CE2F#32 : Word)
        = (((0x5BACEF80#32).signExtend 64 * (0x5BACEF80#32).signExtend 64).sshiftRight 31).setWidth 32
    ∧ (0x106A338B#32 : Word)
        = (((0x41A8CE2F#32).signExtend 64 * (0x20000000#32).signExtend 64).sshiftRight 31).setWidth 32
    ∧ (0x1F95CC75#32 : Word) = 0x30000000#32 - 0x106A338B#32
    ∧ (0x169F2BBF#32 : Word)
        = (((0x5BACEF80#32).signExtend 64 * (0x1F95CC75#32).signExtend 64).sshiftRight 31).setWidth 32 := by decide

theorem witness_NewtonStagesUpdateVar1 :
    ({ at_ codeNr1 with var1 := 0x5BACEF80#32, half := 0x20000000#32 } : State).var1 = 0x5BACEF80#32
    ∧ ({ at_ codeNr1 with var1 := 0x5BACEF80#32, half := 0x20000000#32 } : State).half = 0x20000000#32 := by decide

theorem witness_ReconMultipliesTempAndVar1 :
    (0x2D413CCE#32 : Word)
        = (((0x40000000#32).signExtend 64 * (0x5A82799C#32).signExtend 64).sshiftRight 31).setWidth 32
    ∧ (∃ t, exec .recon (at_ codeRecon) = .next t) := ⟨by decide, ⟨_, rfl⟩⟩

/-- SB at both ends of its range, odd and even. -/
theorem witness_DescaleShiftsByHalfOfSb :
    uint (30#5) ≤ 30 ∧ 15 = (if uint (30#5) % 2 = 0 then uint (30#5) / 2 else (uint (30#5) - 1) / 2)
    ∧ 14 = (if uint (29#5) % 2 = 0 then uint (29#5) / 2 else (uint (29#5) - 1) / 2)
    ∧ 0 = (if uint (0#5) % 2 = 0 then uint (0#5) / 2 else (uint (0#5) - 1) / 2) := by decide

theorem witness_UnreachableCountsComplete : ({ at_ codeDescale with sb := 31#5 } : State).sb = 31#5 := by decide

theorem witness_WritebackPublishesVar1 :
    ({ at_ codeWb with var1 := 0x30459630#32 } : State).var1 = 0x30459630#32 := by decide

theorem witness_StartCapturesTheOperand :
    idleWithResult.stage = codeIdle ∧ idleWithResult.valid = 1#1 ∧ idleWithResult.out = 0x5A82799C#32
    ∧ idleWithResult.err = 0#1
    ∧ ({ idleWithResult with host := [.drive (startPorts 2#32)] } : State).host = .drive (startPorts 2#32) :: []
    ∧ (startPorts 2#32).rst = 0#1 ∧ (startPorts 2#32).opValid = 1#1
    ∧ ({ idleWithResult with host := [.drive (startPorts 2#32)] } : State).opReady = 1#1 := by decide

theorem witness_NoStartWhileBusy :
    (at_ codeNr2).stage ≠ codeIdle ∧ quietPorts.rst = 0#1 ∧ (startPorts 9#32).rst = 0#1
      ∧ State.reset.stage = codeIdle := by decide

theorem witness_OperandIgnoredWithoutStart :
    quietPorts.rst = (⟨0#1, 0#1, 9#32⟩ : InPorts).rst ∧ quietPorts.opValid = 0#1
      ∧ (⟨0#1, 0#1, 9#32⟩ : InPorts).opValid = 0#1 := by decide

/-- The golden value of 0x40000000 (R80), in the form the invariant uses. -/
theorem test_golden_half : fixedSqrt 0x40000000#32 = (0x5A82799C#32, 0#1) := by
  set_option maxRecDepth 4000 in decide

/-- An idle state with a result that meets the invariant. -/
theorem witness_inv_result : idleWithResult.Inv where
  stage_legal := by decide
  result := fun _ => ⟨rfl, test_golden_half.symm⟩
  legal := by decide
  num_raw := by decide
  lz_count := by decide
  num_norm := by decide
  sb_count := by decide
  half_val := by decide
  temp_val := by decide
  var1_seed := by decide
  var1_nr1 := by decide
  var1_nr2 := by decide
  var1_nr3 := by decide
  var1_recon := by decide
  var1_descale := by decide

/-- An idle state with an error result that meets the invariant. -/
theorem witness_inv_error : ({ State.reset with err := 1#1, valid := 1#1 } : State).Inv where
  stage_legal := by decide
  result := by decide
  legal := by decide
  num_raw := by decide
  lz_count := by decide
  num_norm := by decide
  sb_count := by decide
  half_val := by decide
  temp_val := by decide
  var1_seed := by decide
  var1_nr1 := by decide
  var1_nr2 := by decide
  var1_nr3 := by decide
  var1_recon := by decide
  var1_descale := by decide

/-- A busy state, after CHECK of the smallest legal operand, that meets the invariant. -/
theorem witness_inv_busy : ({ at_ codeClz with inReg := 1#32, num := 1#32 } : State).Inv where
  stage_legal := by decide
  result := by decide
  legal := by decide
  num_raw := by decide
  lz_count := by decide
  num_norm := by decide
  sb_count := by decide
  half_val := by decide
  temp_val := by decide
  var1_seed := by decide
  var1_nr1 := by decide
  var1_nr2 := by decide
  var1_nr3 := by decide
  var1_recon := by decide
  var1_descale := by decide

theorem witness_SampleReadsAndWritesNothing :
    idleWithResult.Inv ∧ idleWithResult.valid = 1#1 ∧ idleWithResult.inReg = 0x40000000#32
    ∧ ({ State.reset with err := 1#1, valid := 1#1 } : State).Inv
    ∧ ({ State.reset with err := 1#1, valid := 1#1 } : State).inReg = 0x00000000#32
    ∧ ({ State.reset with host := [.sample] } : State).host = .sample :: [] :=
  ⟨witness_inv_result, rfl, rfl, witness_inv_error, rfl, rfl⟩

theorem witness_ResetClearsTheControlState :
    (∃ t, exec .reset { at_ codeNr2 with out := 0x5A82799C#32 } = .next t) ∧ (at_ codeNr2).stage = codeNr2
    ∧ (at_ codeNr2).valid = 0#1 := ⟨⟨_, rfl⟩, rfl, rfl⟩

theorem witness_ResetWins :
    select ⟨1#1, 1#1, 5#32⟩ codeNr2 = .rst ∧ select (startPorts 5#32) codeIdle = .operand 5#32
    ∧ select (startPorts 5#32) codeNr2 = .stage codeNr2 ∧ select quietPorts codeIdle = .stage codeIdle := by decide

theorem witness_IdleAfterReset : ∃ t, exec .reset (at_ codeNr2) = .next t ∧ t.host = [] := ⟨_, rfl, rfl⟩

theorem witness_RegisterWriters :
    (∃ t, exec .half { at_ codeHalf with num := 2#32 } = .next t ∧ t.half ≠ 0#32 ∧ t.stage ≠ codeHalf)
    ∧ (∃ t, exec .sample State.reset = .next t ∧ t.samples ≠ []) :=
  ⟨⟨_, rfl, by decide, by decide⟩, ⟨_, rfl, by decide⟩⟩

theorem witness_NoTornResult :
    ∃ t, step { at_ codeWb with var1 := 1#32 } = .next t ∧ t.out ≠ 0#32 := ⟨_, rfl, by decide⟩

theorem witness_ResultHeldUntilStart : idleWithResult.Inv ∧ idleWithResult.valid = 1#1
    ∧ (∃ t, step idleWithResult = .next t) := ⟨witness_inv_result, rfl, ⟨_, rfl⟩⟩

theorem witness_OperationInvariantKept :
    ∃ t, step { at_ codeClz with inReg := 1#32, num := 1#32 } = .next t := ⟨_, rfl⟩

theorem witness_NoStepStops : ({ at_ codeClz with inReg := 1#32, num := 1#32 } : State).Inv := witness_inv_busy

/-- An idle state, its result still held, whose host presents an operand and then holds another one. -/
def startingWith (w : Word) : State :=
  { idleWithResult with host := .drive (startPorts w) :: [.drive (startPorts 9#32)] }

/-- A legal and an illegal operand. -/
theorem witness_SequencerComputesFixedSqrt :
    (startingWith 2#32).stage = codeIdle
    ∧ (startingWith 2#32).host = .drive (startPorts 2#32) :: [.drive (startPorts 9#32)]
    ∧ (∀ a ∈ [HostAct.drive (startPorts 9#32)].take (opSteps 2#32), a.letsRun = true)
    ∧ 1 ≤ 11 ∧ 11 ≤ opSteps 2#32
    ∧ (startingWith 0#32).host = .drive (startPorts 0#32) :: [.drive (startPorts 9#32)]
    ∧ (∀ a ∈ [HostAct.drive (startPorts 9#32)].take (opSteps 0#32), a.letsRun = true)
    ∧ 1 ≤ opSteps 0#32 ∧ opSteps 0#32 = 1 := by decide

/-- Two idle states that differ in OUT, VALID and IN, and whose hosts differ after the START. -/
theorem witness_ResultDependsOnOperandAlone :
    (startingWith 2#32).stage = codeIdle
    ∧ (startingWith 2#32).host = .drive (startPorts 2#32) :: [.drive (startPorts 9#32)]
    ∧ (∀ a ∈ [HostAct.drive (startPorts 9#32)].take (opSteps 2#32), a.letsRun = true)
    ∧ ({ State.reset with host := [.drive (startPorts 2#32)] } : State).stage = codeIdle
    ∧ ({ State.reset with host := [.drive (startPorts 2#32)] } : State).host = .drive (startPorts 2#32) :: []
    ∧ (∀ a ∈ ([] : List HostAct).take (opSteps 2#32), a.letsRun = true) := by decide

/-- Two operands, one legal and one not. -/
theorem witness_BackToBackResults :
    ({ State.reset with host := sqrtScripts [2#32, 0#32] } : State).stage = codeIdle
    ∧ ({ State.reset with host := sqrtScripts [2#32, 0#32] } : State).host = sqrtScripts [2#32, 0#32] := by decide

/-- A reset right before the last step of a legal and of an illegal operation. -/
theorem witness_ResetAbandonsOperation :
    10 < opSteps 2#32 ∧ 0 < opSteps 0#32
    ∧ ({ State.reset with host := .drive (startPorts 2#32) :: (List.replicate 10 (.drive quietPorts) ++
        .drive { rst := 1#1, opValid := 0#1, opData := 0#32 } :: []) } : State).stage = codeIdle := by
  decide

theorem witness_DatapathEqualsUnboundedIntegers : legalOperand 0x00000001#32 ∧ 1 = uint (0x00000001#32)
      ∧ legalOperand 0x7FFFFFFF#32 ∧ 0x7FFFFFFF = uint (0x7FFFFFFF#32) := by decide

theorem witness_EstimatesStayPositive : legalOperand 0x20000000#32 := by decide

theorem witness_StatusAndResultBounds : sint (0x80000000#32) ≤ 0 ∧ 0 < sint (0x00000001#32) := by decide

theorem witness_AccuracyWithinEpsilon : legalOperand 0x00000001#32 := by decide

theorem witness_ScalingByPowersOfFour :
    legalOperand 0x00000001#32 ∧ sint (0x40000000#32) = sint (0x00000001#32) * 4 ^ 15
      ∧ sint (0x00000001#32) = sint (0x00000001#32) * 4 ^ 0 := by decide

/-- The unbounded-integer datapath on E3 of table 3.8. -/
theorem test_intSqrt_three : intSqrt 3 = 0x00013988 := by decide +kernel

end Sys2Proof.Tests
end

section
/-! The signals that are functions of STAGE and the result ports (spec/10_state.md R20), and the statement about them. -/

namespace Sys2Proof.Machine

/-- In IDLE the CORE accepts an operand. -/
theorem State.opReady_of_idle {s : State} (h : s.stage = codeIdle) : s.opReady = 1#1 := if_pos h

/-- Outside IDLE the CORE accepts no operand. -/
theorem State.opReady_of_not_idle {s : State} (h : s.stage ≠ codeIdle) : s.opReady = 0#1 := if_neg h

/-- In IDLE the CORE is not busy. -/
theorem State.busy_of_idle {s : State} (h : s.stage = codeIdle) : s.busy = 0#1 := if_pos h

/-- Outside IDLE the CORE is busy. -/
theorem State.busy_of_not_idle {s : State} (h : s.stage ≠ codeIdle) : s.busy = 1#1 := if_neg h

@[simp] theorem State.view_resValid (s : State) : s.view.resValid = s.valid := rfl
@[simp] theorem State.view_resData (s : State) : s.view.resData = s.out := rfl
@[simp] theorem State.view_resStatus (s : State) : s.view.resStatus = s.err := rfl
@[simp] theorem State.view_busy (s : State) : s.view.busy = s.busy := rfl

/-- `op_ready` is 1 in IDLE and nowhere else. -/
theorem State.opReady_eq_one_iff (s : State) : s.opReady = 1#1 ↔ s.stage = codeIdle := by
  refine ⟨fun h => ?_, State.opReady_of_idle⟩
  by_contra hs
  rw [State.opReady_of_not_idle hs] at h
  exact absurd h (by decide)

/-- The two signals are complements: each stage is IDLE or is not. -/
theorem State.busy_eq_not_opReady (s : State) : s.busy = ~~~ s.opReady := by
  by_cases hs : s.stage = codeIdle
  · rw [State.busy_of_idle hs, State.opReady_of_idle hs]
    decide
  · rw [State.busy_of_not_idle hs, State.opReady_of_not_idle hs]
    decide

/-- `busy` is 1 outside IDLE and nowhere else. -/
theorem State.busy_eq_one_iff (s : State) : s.busy = 1#1 ↔ s.stage ≠ codeIdle := by
  refine ⟨fun h hs => ?_, State.busy_of_not_idle⟩
  rw [State.busy_of_idle hs] at h
  exact absurd h (by decide)

/-- Settles O35: both signals by the case split on IDLE, the result ports by the definition of the view. -/
theorem derivedSignals : Obligations.DerivedSignals := fun s =>
  ⟨s.busy_eq_one_iff, s.opReady_eq_one_iff, s.busy_eq_not_opReady,
    s.view_resValid, s.view_resData, s.view_resStatus, s.view_busy⟩

end Sys2Proof.Machine
end

section
/-! The decoder on the sixteen codes of STAGE and on every encoding (spec/30_encoding.md R38, R39, R42), what one
execution and one step do to STAGE, and the two statements about them. -/

namespace Sys2Proof

/-- The code that was decoded is the code of the instruction: a table of sixteen rows. -/
theorem encode_decodeStage : ∀ c : BitVec 4, encode (decodeStage c) = .stage c := by decide

/-- The codes 12 to 15 are the reserved ones (R42). -/
theorem decodeStage_of_reserved : ∀ c : BitVec 4, 12 ≤ uint c → decodeStage c = .reserved (c.setWidth 2) := by decide

/-- The decoder is a left inverse of the encoder, operands and reserved codes included. -/
@[simp] theorem decode_encode (i : Instr) : decode (encode i) = i := by
  cases i with
  | reserved x =>
    have table : ∀ y : BitVec 2, decode (encode (.reserved y)) = .reserved y := by decide
    exact table x
  | _ => rfl

namespace Machine

/-- An execution leaves STAGE as it was or writes one of the twelve stage codes to it. -/
theorem exec_stage_kept_or_legal {i : Instr} {s t : State} (h : exec i s = .next t) :
    t.stage = s.stage ∨ uint t.stage ≤ 11 := by
  cases i with
  | idle | sample =>
    cases h
    exact .inl rfl
  | check =>
    simp only [exec, execCheck] at h
    split at h <;> cases h <;> exact .inr (by simp)
  | start d =>
    simp only [exec, execStart] at h
    split at h <;> cases h
    · exact .inr (by simp)
    · exact .inl rfl
  | reserved x => cases h
  | nr1 | nr2 | nr3 =>
    cases h
    exact .inr (by simp [newtonUpdate])
  | clz | norm | half | seed | recon | descale | wb | reset =>
    cases h
    exact .inr (by simp)

/-- No step leads from one of the twelve stages to a reserved code. -/
theorem step_keeps_legal_stage {s t : State} (hs : uint s.stage ≤ 11) (h : step s = .next t) :
    uint t.stage ≤ 11 := by
  rcases exec_stage_kept_or_legal h with hkept | hlegal
  · rwa [hkept, State.afterFetch_stage]
  · exact hlegal

/-- Settles O9: the reserved codes have no meaning by their definitions, and every step writes a legal code or none. -/
theorem reservedStagesStuckAndUnreachable : Obligations.ReservedStagesStuckAndUnreachable :=
  ⟨fun _ => ⟨rfl, rfl⟩, fun _ _ => rfl, decodeStage_of_reserved, by decide, fun _ _ => step_keeps_legal_stage⟩

/-- With no act of the host left, a fetch uses none up. -/
theorem State.afterFetch_of_host_nil {s : State} (h : s.host = []) : s.afterFetch = s := by
  rw [State.afterFetch, h, List.tail_nil, ← h]

/-- A step of the sequencer executes the stage whose code is in STAGE. -/
theorem step_of_sequencerMoves {s : State} (h : s.sequencerMoves) :
    step s = exec (decode (.stage s.stage)) s.afterFetch := by
  rw [step, fetch_of_sequencerMoves h]

/-- Settles O1: the table of the sixteen codes, the encoder's left inverse, and the sequencer's step with quiet
ports. -/
theorem stageDecodingIsIdentity : Obligations.StageDecodingIsIdentity := by
  refine ⟨fun c => ⟨encode_decodeStage c, rfl⟩, fun c i hi => ?_, fun s hs => ?_⟩
  · rw [← hi, decode_encode]
  · rw [step_of_sequencerMoves (.inl hs), State.afterFetch_of_host_nil hs]

end Machine
end Sys2Proof
end

section
/-! The sequencer's steps, IDLE and CHECK (spec/40_sequencer_check.md R46 to R48): what a step in IDLE and a run of
looks leave, the two paths of CHECK, the successor of every stage, and the three statements about them. -/

namespace Sys2Proof

/-- The codes 0 to 11 name a stage (R42). -/
theorem decodeStage_ne_reserved : ∀ c : BitVec 4, uint c ≤ 11 → ∀ x, decodeStage c ≠ .reserved x := by decide

namespace Machine

/-! ## CHECK -/

/-- A word is not positive when its sign bit is set or it is zero. -/
theorem sint_nonpos_iff (w : Word) : sint w ≤ 0 ↔ (w.getLsbD 31 = true ∨ w = 0x00000000#32) := by
  have hneg : w.getLsbD 31 = true ↔ sint w < 0 := by
    rw [show w.getLsbD 31 = w.msb from (BitVec.msb_eq_getLsbD_last w).symm, BitVec.msb_eq_toInt, decide_eq_true_iff]
  have hzero : w = 0x00000000#32 ↔ sint w = 0 := BitVec.toInt_inj.symm
  rw [hneg, hzero]
  exact le_iff_lt_or_eq

/-- CHECK of an operand that is not positive raises ArgumentError. -/
theorem exec_check_of_nonpos {s : State} (h : sint s.inReg ≤ 0) : exec .check s = .next s.raiseArgumentError :=
  if_pos h

/-- CHECK of a positive operand copies it to NUM and goes to CLZ. -/
theorem exec_check_of_pos {s : State} (h : 0 < sint s.inReg) :
    exec .check s = .next ((s.setNum s.inReg).goto codeClz) :=
  if_neg (not_le.2 h)

/-- Where CHECK goes (R46). -/
theorem exec_check_stage {s t : State} (h : exec .check s = .next t) :
    t.stage = if sint s.inReg ≤ 0 then codeIdle else codeClz := by
  split
  next hle =>
    rw [exec_check_of_nonpos hle] at h
    cases h
    rfl
  next hgt =>
    rw [exec_check_of_pos (not_le.1 hgt)] at h
    cases h
    rfl

/-- Settles O7: the two paths of CHECK by the sign of the operand, and the sign of each of the rule's operands. -/
theorem checkRejectsOrAccepts : Obligations.CheckRejectsOrAccepts := by
  refine ⟨rfl, fun _ => exec_check_of_nonpos, fun _ => exec_check_of_pos, sint_nonpos_iff,
    fun s hs => ?_, fun s hs => ?_⟩
  · refine exec_check_of_nonpos ?_
    rcases hs with hs | hs | hs <;> rw [hs] <;> decide
  · refine exec_check_of_pos ?_
    rcases hs with hs | hs <;> rw [hs] <;> decide

/-! ## IDLE -/

/-- A step of the sequencer in IDLE only uses up the host's act (R47). -/
theorem step_of_idle_sequencerMoves {s : State} (hs : s.stage = codeIdle) (h : s.sequencerMoves) :
    step s = .next s.afterFetch := by
  rw [step_of_sequencerMoves h, hs]
  rfl

/-- A look uses up the host's act and is noted, in any stage (R88). -/
theorem step_of_look {s : State} {rest : List HostAct} (h : s.host = .sample :: rest) :
    step s = .next { s with host := rest, samples := s.view :: s.samples } := by
  rw [step, State.fetch, State.afterFetch, h]
  rfl

/-- A run of looks leaves every register as it is, and each look notes the same view. -/
theorem run_of_looks {n : Nat} {s : State} {rest : List HostAct} (h : s.host = List.replicate n .sample ++ rest) :
    Host.Core.run Sys2Proof.core n s =
      .next { s with host := rest, samples := List.replicate n s.view ++ s.samples } := by
  induction n generalizing s with
  | zero =>
    obtain rfl : s.host = rest := h
    rfl
  | succ n ih =>
    rw [run_succ_of_next (step_of_look h), ih rfl, List.replicate_succ', List.append_assoc]
    rfl

/-- What the ports show right after RESET (R89). -/
theorem exec_reset_view {s t : State} (h : exec .reset s = .next t) :
    t.view = { resValid := 0#1, resData := 0x00000000#32, resStatus := 0#1, busy := 0#1 } := by
  cases h
  rfl

/-- Settles O6: a step in IDLE keeps the state, WB and the error path of CHECK publish a result and go there, and a
run of looks keeps the state and the view that RESET leaves. -/
theorem idleKeepsTheState : Obligations.IdleKeepsTheState := by
  refine ⟨rfl, fun _ => rfl, fun s hs hnil => ?_, fun s p rest hs hdrive hrst hvalid => ?_, rfl, rfl,
    fun s t hwb => ?_, fun s t hle hcheck => ?_, fun s t n hreset hlooks => ?_⟩
  · rw [step_of_idle_sequencerMoves hs (.inl hnil), State.afterFetch_of_host_nil hnil]
  · rw [step_of_idle_sequencerMoves hs (.inr ⟨p, rest, hdrive, hrst, .inl hvalid⟩), State.afterFetch, hdrive,
      List.tail_cons]
  · cases hwb
    exact ⟨rfl, rfl⟩
  · rw [exec_check_of_nonpos hle] at hcheck
    cases hcheck
    exact ⟨rfl, rfl⟩
  · have hrun := run_of_looks (hlooks.trans (List.append_nil _).symm)
    have hview := exec_reset_view hreset
    exact ⟨_, hrun, rfl, hview⟩

/-! ## The successors -/

/-- A stage that every execution leaves for the stage `c'` has `c'` as the successor in every step of the sequencer. -/
theorem stage_of_sequencer_step {s t : State} {c c' : BitVec 4} (h : s.sequencerMoves) (ht : step s = .next t)
    (hexec : ∀ u, ∃ v, exec (decodeStage c) u = .next v ∧ v.stage = c') (hs : s.stage = c) : t.stage = c' := by
  obtain ⟨v, hv, hstage⟩ := hexec s.afterFetch
  rw [step_of_sequencerMoves h, hs] at ht
  cases hv.symm.trans ht
  exact hstage

/-- START on an idle CORE (R86). -/
theorem exec_start_of_idle {s : State} (hs : s.stage = codeIdle) (d : Word) :
    exec (.start d) s = .next (((s.setIn d).setValid 0#1).goto codeCheck) :=
  if_pos hs

/-- A step that leaves IDLE has taken an operand and goes to CHECK: a look, a reset and the sequencer's own step all
end in IDLE. -/
theorem step_leaves_idle_by_start {s t : State} (hs : s.stage = codeIdle) (ht : step s = .next t)
    (hleft : t.stage ≠ codeIdle) : (∃ d, decode s.fetch = .start d) ∧ t.stage = codeCheck := by
  rw [step] at ht
  rcases fetch_cases s with hf | hf | ⟨-, d, hf⟩ | hf <;> rw [hf] at ht ⊢
  · cases ht
    exact absurd hs hleft
  · cases ht
    exact absurd rfl hleft
  · rw [decode, exec_start_of_idle (s := s.afterFetch) hs] at ht
    cases ht
    exact ⟨⟨d, rfl⟩, rfl⟩
  · rw [hs] at ht
    cases ht
    exact absurd hs hleft

/-- Settles O10: the table of R46 row by row, the decoder's answer on a legal code, and the case split on what a step
from IDLE fetches. -/
theorem stageSuccessors : Obligations.StageSuccessors := by
  refine ⟨fun s t h ht => ?_, fun s h hlegal => ?_, fun i s t hs hi ht hleft => ?_⟩
  · have hnext {c c' : BitVec 4} := stage_of_sequencer_step (c := c) (c' := c') h ht
    refine ⟨fun hs => ?_, fun hs => ?_,
      hnext fun _ => ⟨_, rfl, rfl⟩, hnext fun _ => ⟨_, rfl, rfl⟩, hnext fun _ => ⟨_, rfl, rfl⟩,
      hnext fun _ => ⟨_, rfl, rfl⟩, hnext fun _ => ⟨_, rfl, rfl⟩, hnext fun _ => ⟨_, rfl, rfl⟩,
      hnext fun _ => ⟨_, rfl, rfl⟩, hnext fun _ => ⟨_, rfl, rfl⟩, hnext fun _ => ⟨_, rfl, rfl⟩,
      hnext fun _ => ⟨_, rfl, rfl⟩⟩
    · cases (step_of_idle_sequencerMoves hs h).symm.trans ht
      rfl
    · rw [step_of_sequencerMoves h, hs] at ht
      exact exec_check_stage (s := s.afterFetch) ht
  · rw [step_of_sequencerMoves h]
    exact exec_next_of_wellFormed _ _ (decodeStage_ne_reserved _ hlegal)
  · subst hi
    exact step_leaves_idle_by_start hs ht hleft

end Machine
end Sys2Proof
end

section
/-! CLZ, NORM and HALF (spec/41_clz_normalize.md R51 to R53 and R55): the leading-zero counter is the library's
`BitVec.clz`, the next state of each of the three micro-operations, and the four statements about them. -/

namespace Sys2Proof.Machine

/-! ## Positive words -/

/-- A positive word is not the zero word. -/
theorem ne_zero_of_sint_pos {v : Word} (h : 0 < sint v) : v ≠ 0#32 := by
  rintro rfl
  exact absurd h (by decide)

/-- The sign bit of a positive word is clear. -/
theorem msb_of_sint_pos {v : Word} (h : 0 < sint v) : v.msb = false := by
  rw [BitVec.msb_eq_toInt]
  exact decide_eq_false (not_lt.2 h.le)

/-! ## The leading-zero counter -/

/-- The model's recursion down the bits and the library's count the same zeros: the library starts from the zeros it has
already passed, the model adds them on the way back. -/
theorem toNat_clzAuxRec (v : Word) {n : Nat} (hn : n < 32) :
    (v.clzAuxRec n).toNat = zerosBelow v (n + 1) + (31 - n) := by
  induction n with
  | zero =>
    rw [BitVec.clzAuxRec_zero]
    cases h : v.getLsbD 0
    · rw [zerosBelow_succ_of_clear h]
      rfl
    · rw [zerosBelow_succ_of_set h]
      rfl
  | succ n ih =>
    rw [BitVec.clzAuxRec_succ]
    cases h : v.getLsbD (n + 1)
    · rw [if_neg Bool.false_ne_true, zerosBelow_succ_of_clear h, ih (by omega)]
      omega
    · rw [if_pos rfl, zerosBelow_succ_of_set h, BitVec.toNat_ofNat]
      omega

/-- `clz32` is the library's count of leading zeros. -/
theorem clz32_eq_clz (v : Word) : clz32 v = v.clz.toNat := (toNat_clzAuxRec v (by decide : 31 < 32)).symm

/-- The count is at most the width of the word. -/
theorem clz32_le (v : Word) : clz32 v ≤ 32 := zerosBelow_le v 32

/-- The counted bits are clear, by size. -/
theorem uint_lt_two_pow_of_clz32 (v : Word) : uint v < 2 ^ (32 - clz32 v) := by
  rw [clz32_eq_clz]
  exact BitVec.toNat_lt_two_pow_sub_clz

/-- The zero word alone has 32 leading zeros. -/
theorem clz32_le_of_ne_zero {v : Word} (h : v ≠ 0#32) : clz32 v ≤ 31 := by
  rw [clz32_eq_clz]
  exact Nat.le_of_lt_succ (BitVec.lt_def.1 (BitVec.clz_lt_iff_ne_zero.2 h))

/-- The bit that ends the count is set. -/
theorem getLsbD_clz32_of_ne_zero {v : Word} (h : v ≠ 0#32) : v.getLsbD (31 - clz32 v) = true := by
  rw [clz32_eq_clz]
  exact BitVec.getLsbD_true_clz_of_ne_zero (by decide) h

/-- The counted bits are clear, by position. -/
theorem getLsbD_of_lt_clz32 {v : Word} {j : Nat} (h : j < clz32 v) : v.getLsbD (31 - j) = false := by
  have hle := clz32_le v
  exact Nat.testBit_lt_two_pow
    ((uint_lt_two_pow_of_clz32 v).trans_le (Nat.pow_le_pow_right (by decide) (by omega)))

/-- The count of a word with a clear sign bit is not 0. -/
theorem clz32_pos_of_msb {v : Word} (h : v.msb = false) : 1 ≤ clz32 v := by
  rw [Nat.one_le_iff_ne_zero, clz32_eq_clz, Ne, BitVec.clz_eq_zero_iff (by decide), not_le]
  exact BitVec.toNat_lt_of_msb_false h

/-- Settles O11: by position and by size from the library's counter, and the table of R51. -/
theorem leadingZeroCount : Obligations.LeadingZeroCount := by
  refine ⟨fun v h => ⟨clz32_le_of_ne_zero h, fun _ => getLsbD_of_lt_clz32, getLsbD_clz32_of_ne_zero h,
    Nat.ge_two_pow_of_testBit (getLsbD_clz32_of_ne_zero h), uint_lt_two_pow_of_clz32 v⟩, ?_⟩
  decide

/-! ## CLZ -/

/-- CLZ writes the count to LZ and goes to NORM (R52). -/
theorem exec_clz (s : State) :
    exec .clz s = .next { s with lz := BitVec.ofNat 6 (clz32 s.num), stage := codeNorm } := rfl

/-- The six bits of LZ hold every count. -/
theorem uint_ofNat_clz32 (v : Word) : uint (BitVec.ofNat 6 (clz32 v)) = clz32 v :=
  (BitVec.toNat_ofNat _ 6).trans (Nat.mod_eq_of_lt ((clz32_le v).trans_lt (by decide)))

/-- Settles O12: the next state of CLZ, the bounds of the count on a positive word, and the count of each example. -/
theorem clzCountsIntoLz : Obligations.ClzCountsIntoLz := by
  refine ⟨rfl, fun s => ⟨exec_clz s, uint_ofNat_clz32 s.num⟩,
    fun s h => ⟨clz32_pos_of_msb (msb_of_sint_pos h), clz32_le_of_ne_zero (ne_zero_of_sint_pos h)⟩,
    fun s h => ?_, fun s h => ?_, fun s h => ?_⟩
  all_goals
    rw [exec_clz, h]
    rfl

/-! ## NORM -/

/-- The shift of NORM is the even one of `sb` and `sb - 1` (R56). -/
theorem normShift_eq (sb : Nat) : normShift sb = 2 * (sb / 2) := by
  rw [normShift]
  split <;> omega

/-- NORM where LZ is `sb + 1`, for every `sb` of R53. -/
theorem exec_norm_of_lz {s : State} {sb sh : Nat} (hlz : uint s.lz = sb + 1) (hsb : sb ≤ 30)
    (hsh : normShift sb = sh) :
    exec .norm s = .next { s with sb := BitVec.ofNat 5 sb, num := s.num <<< sh, stage := codeHalf } := by
  have hdom : normDomain s.lz := by omega
  have hexec : exec .norm s =
      .next { s with sb := normSb s.lz s.num, num := normNum s.lz s.num, stage := codeHalf } := rfl
  rw [hexec, normSb, if_pos hdom, normNum, if_pos hdom, hlz, Nat.add_sub_cancel, hsh, shl_eq_shiftLeft]

/-- A left shift by at most the count loses no 1 bit. -/
theorem uint_shiftLeft_of_le_clz32 {v : Word} {k : Nat} (h : k ≤ clz32 v) : uint (v <<< k) = uint v * 2 ^ k := by
  rw [← shl_eq_shiftLeft]
  refine uint_shl_of_fits ?_
  have hle := clz32_le v
  calc uint v * 2 ^ k < 2 ^ (32 - clz32 v) * 2 ^ k :=
        Nat.mul_lt_mul_of_pos_right (uint_lt_two_pow_of_clz32 v) (Nat.two_pow_pos k)
    _ = 2 ^ (32 - clz32 v + k) := (Nat.pow_add ..).symm
    _ ≤ 2 ^ 32 := Nat.pow_le_pow_right (by decide) (by omega)

/-- Settles O13: the next state of NORM, the shift as twice `sb / 2`, and each corner case by its `sb` and shift. -/
theorem normShiftsByAnEvenAmount : Obligations.NormShiftsByAnEvenAmount := by
  refine ⟨rfl, fun s sb sh hlo hhi hsb hsh => ?_, fun s hlz => ?_, fun s hlz => ?_, fun s hlz hnum => ?_,
    fun s hlz => ?_, fun s hlz hnum => ?_, fun s hlz hnum => ?_⟩
  · have hshift : sh = 2 * (sb / 2) := hsh.trans (normShift_eq sb)
    have hfits : uint (BitVec.ofNat 5 sb) = sb := (BitVec.toNat_ofNat sb 5).trans (Nat.mod_eq_of_lt (by omega))
    exact ⟨exec_norm_of_lz (by omega) (by omega) hsh.symm, hfits, hshift, by omega,
      fun _ hclz => uint_shiftLeft_of_le_clz32 (by omega)⟩
  · rw [exec_norm_of_lz (sb := 0) (sh := 0) (congrArg BitVec.toNat hlz) (by decide) rfl, BitVec.shiftLeft_zero]
  · rw [exec_norm_of_lz (sb := 1) (sh := 0) (congrArg BitVec.toNat hlz) (by decide) rfl, BitVec.shiftLeft_zero]
  · rw [exec_norm_of_lz (sb := 30) (congrArg BitVec.toNat hlz) (by decide) rfl, hnum]
    rfl
  · exact exec_norm_of_lz (congrArg BitVec.toNat hlz) (by decide) rfl
  · rw [exec_norm_of_lz (sb := 2) (congrArg BitVec.toNat hlz) (by decide) rfl, hnum]
    rfl
  · rw [exec_norm_of_lz (sb := 7) (congrArg BitVec.toNat hlz) (by decide) rfl, hnum]
    rfl

/-! ## HALF -/

/-- HALF writes the shifted NUM to HALF, NUM to TEMP and goes to SEED (R55). -/
theorem exec_half (s : State) :
    exec .half s = .next { s with half := s.num.sshiftRight 1, temp := s.num, stage := codeSeed } := by
  rw [← asr_eq_sshiftRight (by decide)]
  rfl

/-- The shift by one is the floor of the half. -/
theorem sint_sshiftRight_one (v : Word) : sint (v.sshiftRight 1) = sint v / 2 := by
  rw [← asr_eq_sshiftRight (by decide), sint_asr (by decide), pow_one]

/-- Settles O16: the next state of HALF, the shift as a floor, and the word of each example. -/
theorem halfAndTempFromNum : Obligations.HalfAndTempFromNum := by
  refine ⟨rfl, exec_half, sint_sshiftRight_one,
    fun v h => BitVec.sshiftRight_eq_of_msb_false (msb_of_sint_pos h), fun v ⟨hlo, hhi⟩ => ?_,
    fun s h => ?_, fun s h => ?_⟩
  · rw [sint_sshiftRight_one]
    constructor <;> omega
  all_goals
    rw [exec_half, h]
    rfl

end Sys2Proof.Machine
end

section
/-! SEED (spec/42_seed.md R57 to R60): the fields of a binary32 pattern and the pattern that `i2f` packs as numbers, the
exact subtraction of `magic`, the exact product of `f2q`, and the three statements about them. -/

namespace Sys2Proof.Machine

/-! ## The binary32 layout (R36) -/

/-- Bit 31 of a word is clear exactly when the word reads below 2^31. -/
theorem getLsbD_31_eq_false_iff (w : Word) : w.getLsbD 31 = false ↔ uint w < 2 ^ 31 := by
  rw [show w.getLsbD 31 = w.msb from (BitVec.msb_eq_getLsbD_last w).symm, BitVec.msb_eq_false_iff_two_mul_lt, uint_def]
  omega

/-- A word below 2^31 reads the same signed and unsigned. -/
theorem sint_eq_uint_of_lt {w : Word} (h : uint w < 2 ^ 31) : sint w = uint w :=
  BitVec.toInt_eq_toNat_of_lt (by rw [uint_def] at h; omega)

/-- The biased exponent by division. -/
theorem expField_eq (b : Word) : expField b = uint b / 2 ^ 23 % 2 ^ 8 := by
  rw [expField, uint_def, BitVec.extractLsb'_toNat, Nat.shiftRight_eq_div_pow]

/-- The fraction by remainder. -/
theorem fracField_eq (b : Word) : fracField b = uint b % 2 ^ 23 := by
  rw [fracField, uint_def, BitVec.extractLsb'_toNat, Nat.shiftRight_zero]

/-- The fraction has 23 bits. -/
theorem fracField_lt (b : Word) : fracField b < 2 ^ 23 := BitVec.isLt _

/-- A packed pattern as a number: the significand's leading 1 is the unit of the exponent field. -/
theorem uint_packBinary32 {e m : Nat} (he : e < 2 ^ 8) (hlo : 2 ^ 23 ≤ m) (hhi : m < 2 ^ 24) :
    uint (packBinary32 e m) = e * 2 ^ 23 + (m - 2 ^ 23) := by
  have hfrac : m - 2 ^ 23 < 2 ^ 23 := by omega
  rw [packBinary32, uint_def, BitVec.toNat_append, BitVec.toNat_append, BitVec.toNat_ofNat, BitVec.toNat_ofNat,
    BitVec.toNat_ofNat, Nat.mod_eq_of_lt he, Nat.mod_eq_of_lt hfrac, ← Nat.shiftLeft_add_eq_or_of_lt hfrac,
    Nat.zero_mod, Nat.zero_shiftLeft, Nat.zero_or, Nat.shiftLeft_eq]

/-! ## The conversion `i2f` -/

/-- A normalised number has the same bounds unsigned. -/
theorem uint_range_of_normalised {v : Word} (h : normalised v) : 2 ^ 29 ≤ uint v ∧ uint v < 2 ^ 31 := by
  obtain ⟨hlo, -⟩ := h
  have hmsb : v.msb = false := msb_of_sint_pos (by omega)
  have hsame : sint v = uint v := BitVec.toInt_eq_toNat_of_msb hmsb
  exact ⟨by omega, BitVec.toNat_lt_of_msb_false hmsb⟩

/-- The most significant 1 bit of a normalised number is bit 29 or 30. -/
theorem topBit_range (n : Nat) : 29 ≤ topBit n ∧ topBit n ≤ 30 := by
  rw [topBit]
  split <;> decide

/-- The significand has 24 bits, or is 2^24 where the rounding carries into the next binade. -/
theorem roundSignificand_range {n : Nat} (hlo : 2 ^ 29 ≤ n) (hhi : n < 2 ^ 31) :
    2 ^ 23 ≤ roundSignificand n ∧ roundSignificand n ≤ 2 ^ 24 := by
  have hquot : 2 ^ 23 ≤ n / 2 ^ (topBit n - 23) ∧ n / 2 ^ (topBit n - 23) < 2 ^ 24 := by
    rw [topBit]
    split <;> norm_num <;> omega
  rw [roundSignificand]
  split <;> omega

/-- `binary32OfNat` as a number: the carry of the rounding moves into the exponent by itself. -/
theorem uint_binary32OfNat {n : Nat} (hlo : 2 ^ 29 ≤ n) (hhi : n < 2 ^ 31) :
    uint (binary32OfNat n) = (95 + topBit n) * 2 ^ 23 + roundSignificand n := by
  obtain ⟨hm, hm'⟩ := roundSignificand_range hlo hhi
  have htop := topBit_range n
  rw [binary32OfNat]
  split
  next hcarry =>
    rw [uint_packBinary32 (by omega) le_rfl (by decide)]
    omega
  next hcarry =>
    rw [uint_packBinary32 (by omega) hm (by omega)]
    omega

/-- The pattern of `i2f` as a number, on its domain. -/
theorem uint_i2f {v : Word} (h : normalised v) :
    uint (i2f v) = (95 + topBit (uint v)) * 2 ^ 23 + roundSignificand (uint v) := by
  obtain ⟨hlo, hhi⟩ := uint_range_of_normalised h
  rw [i2f, if_pos h]
  exact uint_binary32OfNat hlo hhi

/-- The patterns of `i2f` are those of the real numbers 0.25 to 1 (R61(a)). -/
theorem uint_i2f_range {v : Word} (h : normalised v) : 0x3E800000 ≤ uint (i2f v) ∧ uint (i2f v) ≤ 0x3F800000 := by
  obtain ⟨hlo, hhi⟩ := uint_range_of_normalised h
  obtain ⟨hm, hm'⟩ := roundSignificand_range hlo hhi
  have htop := topBit_range (uint v)
  rw [uint_i2f h]
  omega

/-- The patterns of `i2f` have sign 0. -/
theorem getLsbD_31_i2f {v : Word} (h : normalised v) : (i2f v).getLsbD 31 = false :=
  (getLsbD_31_eq_false_iff _).2 ((uint_i2f_range h).2.trans_lt (by decide))

/-! ## The transform `magic` -/

/-- The transform on bit vectors, for every pattern (R59). -/
theorem magic_eq_sub (b : Word) : magic b = 0x5F3759DF#32 - (b >>> 1) := by
  rw [magic, sub32_eq_sub, lsr_eq_ushiftRight]

/-- With bit 31 clear the shifted pattern is at most MAGIC, so the subtraction is exact on the unsigned readings. -/
theorem uint_magic_add_half {b : Word} (h : b.getLsbD 31 = false) : uint (magic b) + uint b / 2 = 0x5F3759DF := by
  have hb := (getLsbD_31_eq_false_iff b).1 h
  have hshift : (b >>> 1).toNat = uint b / 2 := by
    rw [BitVec.toNat_ushiftRight, Nat.shiftRight_eq_div_pow, pow_one, uint_def]
  have hle : b >>> 1 ≤ 0x5F3759DF#32 := by
    rw [BitVec.le_def, hshift, BitVec.toNat_ofNat]
    omega
  rw [magic_eq_sub, uint_def, BitVec.toNat_sub_of_le hle, hshift, BitVec.toNat_ofNat]
  omega

/-- The transform keeps bit 31 clear. -/
theorem getLsbD_31_magic {b : Word} (h : b.getLsbD 31 = false) : (magic b).getLsbD 31 = false := by
  have hsum := uint_magic_add_half h
  rw [getLsbD_31_eq_false_iff]
  omega

/-- With bit 31 clear the logical and the arithmetic shift agree. -/
theorem ushiftRight_eq_sshiftRight {b : Word} (h : b.getLsbD 31 = false) (k : Nat) : b >>> k = b.sshiftRight k :=
  (BitVec.sshiftRight_eq_of_msb_false ((BitVec.msb_eq_getLsbD_last b).trans h)).symm

/-- Settles O19: the transform on bit vectors, and for the patterns of `i2f`, whose bit 31 is clear, the exact
subtraction. -/
theorem magicTransform : Obligations.MagicTransform :=
  ⟨fun b _ => magic_eq_sub b, fun _ hb => ushiftRight_eq_sshiftRight hb 1,
    fun _ hv =>
      have hsign := getLsbD_31_i2f hv
      ⟨hsign, uint_magic_add_half hsign, getLsbD_31_magic hsign⟩,
    by decide, by decide⟩

/-! ## The conversion `f2q` -/

/-- A 24-bit significand shifted by at most 7 stays below 2^31. -/
theorem significand_mul_lt {m e : Nat} (hm : m < 2 ^ 23) (he : e ≤ 127) : (2 ^ 23 + m) * 2 ^ (e - 120) < 2 ^ 31 :=
  calc (2 ^ 23 + m) * 2 ^ (e - 120) < 2 ^ 24 * 2 ^ (e - 120) :=
        Nat.mul_lt_mul_of_pos_right (by omega) (Nat.two_pow_pos _)
    _ ≤ 2 ^ 24 * 2 ^ 7 := Nat.mul_le_mul_left _ (Nat.pow_le_pow_right (by decide) (by omega))

/-- On its domain `f2q` is the exact product, for the 32 bits hold it. -/
theorem uint_f2q {b : Word} (h : f2qDomain b) : uint (f2q b) = (2 ^ 23 + fracField b) * 2 ^ (expField b - 120) := by
  have ⟨_, _, hexp⟩ := h
  have hlt := significand_mul_lt (fracField_lt b) hexp
  rw [f2q, if_pos h, uint_def, BitVec.toNat_ofNat]
  exact Nat.mod_eq_of_lt (hlt.trans (by decide))

/-- The product leaves bit 31 clear (R60). -/
theorem uint_f2q_lt {b : Word} (h : f2qDomain b) : uint (f2q b) < 2 ^ 31 := by
  have ⟨_, _, hexp⟩ := h
  rw [uint_f2q h]
  exact significand_mul_lt (fracField_lt b) hexp

/-- Settles O20: the exact product, read unsigned and signed, and the word of each example. -/
theorem binary32ToFixedPoint : Obligations.Binary32ToFixedPoint := by
  refine ⟨fun b e m hsign he hm hlo hhi => ?_, by decide, by decide⟩
  rw [← expField_eq] at he
  rw [← fracField_eq] at hm
  subst he hm
  have hdom : f2qDomain b := ⟨hsign, hlo, hhi⟩
  have hproduct := uint_f2q hdom
  have hbound := uint_f2q_lt hdom
  exact ⟨hproduct, (sint_eq_uint_of_lt hbound).trans (congrArg _ hproduct), hbound⟩

/-! ## SEED -/

/-- SEED writes the seed of NUM to VAR1 and goes to NR1, for every NUM (R57). -/
theorem exec_seed (s : State) : exec .seed s = .next { s with var1 := f2q (magic (i2f s.num)), stage := codeNr1 } := rfl

/-- Settles O17: the next state of SEED, and the three wires of the example. -/
theorem seedWritesVar1 : Obligations.SeedWritesVar1 := by
  have hi2f : i2f 0x40000000#32 = 0x3F000000#32 := by decide
  have hmagic : magic 0x3F000000#32 = 0x3FB759DF#32 := by decide
  have hf2q : f2q 0x3FB759DF#32 = 0x5BACEF80#32 := by decide
  refine ⟨rfl, fun s _ => exec_seed s, hi2f, hmagic, fun s hnum => ?_⟩
  rw [exec_seed, hnum, hi2f, hmagic, hf2q]

end Sys2Proof.Machine
end

section
/-! NR1, NR2 and NR3 (spec/43_newton_raphson.md R62 to R65): the multiplier's step and the update in the library's bit
vector operations, the next state of the three micro-operations, and the two statements about them. -/

namespace Sys2Proof.Machine

/-! ## The update `nr` -/

/-- The step that every multiplication of the datapath ends with, in the library's operations: the factors sign-extended
to 64 bits, their product shifted right arithmetically by 31 and narrowed. -/
theorem mulShift31_eq_setWidth (a b : Word) :
    mulShift31 a b = ((a.signExtend 64 * b.signExtend 64).sshiftRight 31).setWidth 32 := by
  rw [mulShift31, mul64_eq_mul, asr_eq_sshiftRight (by decide), narrow32_eq_setWidth]

/-- The update from the values of its four wires (R62), each given by the wires before it. -/
theorem nr_of_wires {v hf t1 t2 t3 t4 : Word} (h1 : mulShift31 v v = t1) (h2 : mulShift31 t1 hf = t2)
    (h3 : sub32 newtonC t2 = t3) (h4 : mulShift31 v t3 = t4) : nr v hf = t4 <<< 2 := by
  subst h1 h2 h3 h4
  exact shl_eq_shiftLeft _ _

/-- Settles O22: each wire of the formula is the model's, a product by the library's form of the multiplier's step, the
difference by that of the subtractor. -/
theorem newtonUpdateFormula : Obligations.NewtonUpdateFormula := by
  intro v hf t1 t2 t3 t4 h1 h2 h3 h4
  rw [← mulShift31_eq_setWidth] at h1 h2 h4
  rw [← sub32_eq_sub] at h3
  exact nr_of_wires h1.symm h2.symm h3.symm h4.symm

/-! ## The three micro-operations -/

/-- NR1 updates VAR1 with HALF and goes to NR2 (R63). -/
theorem exec_nr1 (s : State) : exec .nr1 s = .next { s with var1 := nr s.var1 s.half, stage := codeNr2 } := rfl

/-- NR2 updates VAR1 with HALF and goes to NR3 (R64). -/
theorem exec_nr2 (s : State) : exec .nr2 s = .next { s with var1 := nr s.var1 s.half, stage := codeNr3 } := rfl

/-- NR3 updates VAR1 with HALF and goes to RECON (R65). -/
theorem exec_nr3 (s : State) : exec .nr3 s = .next { s with var1 := nr s.var1 s.half, stage := codeRecon } := rfl

/-- Settles O23: the next states of the three micro-operations; in each rule's example the wires, one after the other,
give the value of the update. -/
theorem newtonStagesUpdateVar1 : Obligations.NewtonStagesUpdateVar1 := by
  have a1 : mulShift31 0x5BACEF80#32 0x5BACEF80#32 = 0x41A8CE2F#32 := by decide
  have a2 : mulShift31 0x41A8CE2F#32 0x20000000#32 = 0x106A338B#32 := by decide
  have a3 : sub32 0x30000000#32 0x106A338B#32 = 0x1F95CC75#32 := by decide
  have a4 : mulShift31 0x5BACEF80#32 0x1F95CC75#32 = 0x169F2BBF#32 := by decide
  have b1 : mulShift31 0x5A7CAEFC#32 0x5A7CAEFC#32 = 0x3FF7CF86#32 := by decide
  have b2 : mulShift31 0x3FF7CF86#32 0x20000000#32 = 0x0FFDF3E1#32 := by decide
  have b3 : sub32 0x30000000#32 0x0FFDF3E1#32 = 0x20020C1F#32 := by decide
  have b4 : mulShift31 0x5A7CAEFC#32 0x20020C1F#32 = 0x16A09E43#32 := by decide
  have c1 : mulShift31 0x5A82790C#32 0x5A82790C#32 = 0x3FFFFF37#32 := by decide
  have c2 : mulShift31 0x3FFFFF37#32 0x20000000#32 = 0x0FFFFFCD#32 := by decide
  have c3 : sub32 0x30000000#32 0x0FFFFFCD#32 = 0x20000033#32 := by decide
  have c4 : mulShift31 0x5A82790C#32 0x20000033#32 = 0x16A09E67#32 := by decide
  refine ⟨rfl, rfl, rfl, exec_nr1, exec_nr2, exec_nr3, fun s hv hf => ?_, by decide, a1, by decide, a2, a3, by decide, a4,
    fun s hv hf => ?_, b1, b2, b3, b4, fun s hv hf => ?_, c1, c2, c3, c4⟩
  · rw [exec_nr1, hv, hf, nr_of_wires a1 a2 a3 a4]
    rfl
  · rw [exec_nr2, hv, hf, nr_of_wires b1 b2 b3 b4]
    rfl
  · rw [exec_nr3, hv, hf, nr_of_wires c1 c2 c3 c4]
    rfl

end Sys2Proof.Machine
end

section
/-! RECON and DESCALE (spec/44_reconstruct_descale_writeback.md R68, R69): the next state of each in the library's bit
vector operations, and the two statements about them. -/

namespace Sys2Proof.Machine

/-! ## RECON -/

/-- RECON writes the doubled step of TEMP and VAR1 to VAR1 and goes to DESCALE (R68). -/
theorem exec_recon (s : State) :
    exec .recon s = .next { s with var1 := mulShift31 s.temp s.var1 <<< 1, stage := codeDescale } := by
  rw [← shl_eq_shiftLeft]
  rfl

/-- RECON from the value of its shifted and narrowed product. -/
theorem exec_recon_of_wire {s : State} {a b r : Word} (ha : s.temp = a) (hb : s.var1 = b) (hr : mulShift31 a b = r) :
    exec .recon s = .next { s with var1 := r <<< 1, stage := codeDescale } := by
  rw [exec_recon, ha, hb, hr]

/-- Settles O24: the formula by the library's form of the multiplier's step, bit 0 by the final left shift, and each
example by its product. -/
theorem reconMultipliesTempAndVar1 : Obligations.ReconMultipliesTempAndVar1 := by
  have largest : mulShift31 0x40000000#32 0x5A82799C#32 = 0x2D413CCE#32 := by decide
  have middle : mulShift31 0x48D159E0#32 0x54DA5204#32 = 0x30459630#32 := by decide
  refine ⟨rfl, fun s r hr => ?_, fun s t h => ?_, by decide, largest, fun s htemp hvar => ?_, by decide, middle,
    fun s htemp hvar => ?_⟩
  · exact exec_recon_of_wire rfl rfl ((mulShift31_eq_setWidth _ _).trans hr.symm)
  · rw [exec_recon] at h
    cases h
    simp
  · exact exec_recon_of_wire htemp hvar largest
  · exact exec_recon_of_wire htemp hvar middle

/-! ## DESCALE -/

/-- The shift of DESCALE is the floor of half of SB (R69). -/
theorem descaleShift_eq (sb : Nat) : descaleShift sb = sb / 2 := by
  rw [descaleShift]
  split <;> omega

/-- DESCALE shifts VAR1 right by half of SB and goes to WB, for every SB (R69). -/
theorem exec_descale (s : State) :
    exec .descale s = .next { s with var1 := s.var1.sshiftRight (uint s.sb / 2), stage := codeWb } := by
  rw [← descaleShift_eq, ← asr_eq_sshiftRight (by decide)]
  rfl

/-- The arithmetic right shift of the library is the floor of the signed value divided by 2^k. -/
theorem sint_sshiftRight (v : Word) (k : Nat) : sint (v.sshiftRight k) = sint v / 2 ^ k := by
  rw [← asr_eq_sshiftRight (by decide), sint_asr (by decide)]

/-- DESCALE where SB div 2 is `k`. -/
theorem exec_descale_of_half {s : State} {sb : BitVec 5} {k : Nat} (hsb : s.sb = sb) (hk : uint sb / 2 = k) :
    exec .descale s = .next { s with var1 := s.var1.sshiftRight k, stage := codeWb } := by
  rw [exec_descale, ← hk, ← hsb]

/-- Settles O25: the shift as SB div 2 and as a floor, and each corner case and example by its shift. -/
theorem descaleShiftsByHalfOfSb : Obligations.DescaleShiftsByHalfOfSb := by
  refine ⟨rfl, fun s sb k hsb hle hk => ?_, sint_sshiftRight, fun s hsb => ?_, fun s hsb => ?_,
    fun s hsb hvar => ?_, fun s hsb hvar => ?_, fun s hsb hvar => ?_⟩
  · have hhalf : k = sb / 2 := hk.trans (descaleShift_eq sb)
    exact ⟨exec_descale_of_half rfl (by rw [← hsb, hhalf]), hhalf, by omega⟩
  · have hzero : uint s.sb / 2 = 0 := by
      rcases hsb with hsb | hsb <;> rw [hsb] <;> rfl
    rw [exec_descale_of_half rfl hzero, BitVec.sshiftRight_zero]
  · exact exec_descale_of_half hsb rfl
  all_goals
    rw [exec_descale_of_half hsb rfl, hvar]
    rfl

end Sys2Proof.Machine
end

section
/-! START and RESET through the ports (spec/46_host_interface.md R86, R87, R89): what a step fetches and executes while
the host drives the ports, and the three statements about it. -/

namespace Sys2Proof.Machine

/-! ## A step under driven ports -/

/-- While the host drives the ports, their levels and STAGE select what the step executes (R49). -/
theorem step_of_drive {s : State} {p : InPorts} {rest : List HostAct} (h : s.host = .drive p :: rest) :
    step s = exec (decode (select p s.stage)) { s with host := rest } := by
  rw [step, State.fetch, State.afterFetch, h, List.tail_cons]

/-- With rst low, the operand is selected exactly when it is valid in IDLE (R86). -/
theorem select_eq_operand_iff {p : InPorts} (hr : p.rst ≠ 1#1) (c : BitVec 4) :
    select p c = .operand p.opData ↔ p.opValid = 1#1 ∧ c = codeIdle := by
  constructor
  · intro hsel
    by_contra hnot
    rw [select_of_stage hr (not_and_or.1 hnot)] at hsel
    cases hsel
  · rintro ⟨hv, rfl⟩
    exact select_of_operand hr hv

/-- A level that is low is not asserted. -/
theorem ne_one_of_low {b : BitVec 1} (h : b = 0#1) : b ≠ 1#1 := by
  rw [h]
  decide

/-- A valid operand on the ports of an idle CORE with rst low is taken: IN, VALID and STAGE are written (R86). -/
theorem step_of_start {s : State} {p : InPorts} {rest : List HostAct} (h : s.host = .drive p :: rest)
    (hr : p.rst ≠ 1#1) (hv : p.opValid = 1#1) (hs : s.stage = codeIdle) :
    step s = .next { s with inReg := p.opData, valid := 0#1, stage := codeCheck, host := rest } := by
  rw [step_of_drive h, (select_eq_operand_iff hr _).2 ⟨hv, hs⟩]
  exact exec_start_of_idle (s := { s with host := rest }) hs _

/-- A host that presents an operand to an idle CORE is served in that step, with the word it shows then (R86, R87). -/
theorem step_of_start_shown {s : State} (hs : s.stage = codeIdle) (w : Word) (rest : List HostAct) :
    step { s with host := .drive (startPorts w) :: rest } =
      .next { s with inReg := w, valid := 0#1, stage := codeCheck, host := rest } :=
  step_of_start (p := startPorts w) rfl (ne_one_of_low rfl) rfl hs

/-- While rst is asserted the step is RESET, in any stage and whatever the other ports show (R89). -/
theorem step_of_rst {s : State} {p : InPorts} {rest : List HostAct} (h : s.host = .drive p :: rest)
    (hr : p.rst = 1#1) : step s = exec .reset { s with host := rest } := by
  rw [step_of_drive h, select_of_rst hr]
  rfl

/-- A busy CORE under driven ports with rst low executes the stage in STAGE, whatever the operand ports show (R87). -/
theorem step_of_drive_busy {s : State} {p : InPorts} {rest : List HostAct} (h : s.host = .drive p :: rest)
    (hr : p.rst ≠ 1#1) (hs : s.stage ≠ codeIdle) : step s = exec (decodeStage s.stage) { s with host := rest } := by
  rw [step_of_drive h, select_of_stage hr (.inr hs)]
  rfl

/-- RESET ends in IDLE. -/
theorem exec_reset_stage {s t : State} (h : exec .reset s = .next t) : t.stage = codeIdle := by
  cases h
  rfl

/-! ## The statements -/

/-- Settles O27: START on an idle CORE as an execution and through the ports; in the example OUT and ERR are written back
as they were. -/
theorem startCapturesTheOperand : Obligations.StartCapturesTheOperand := by
  refine ⟨fun _ => rfl, fun d s hs => exec_start_of_idle hs d, fun s p rest h hr => ?_,
    fun s p rest h hr hv hready => ?_, fun s hs _ hout herr => ?_⟩
  · have hfetch : s.fetch = select p s.stage := by rw [State.fetch, h]
    rw [hfetch, s.opReady_eq_one_iff, select_eq_operand_iff (ne_one_of_low hr)]
  · exact step_of_start h (ne_one_of_low hr) hv (s.opReady_eq_one_iff.1 hready)
  · rw [exec_start_of_idle hs, ← hout, ← herr]
    rfl

/-- Settles O28: on a busy CORE both hosts' steps execute the stage in STAGE from the same state; on an idle CORE the
operand shown is taken. -/
theorem noStartWhileBusy : Obligations.NoStartWhileBusy := by
  refine ⟨fun _ => State.opReady_of_not_idle, fun s p q rest hs hp hq => ?_, fun s w rest hs => ?_⟩
  · have hstep {r : InPorts} (hr : r.rst = 0#1) :
        step { s with host := .drive r :: rest } = exec (decodeStage s.stage) { s with host := rest } :=
      step_of_drive_busy rfl (ne_one_of_low hr) hs
    exact (hstep hp).trans (hstep hq).symm
  · exact step_of_start_shown hs w rest

/-- Settles O31: the four writes of RESET, the step it wins while rst is asserted, and the START that IDLE accepts
afterwards. -/
theorem resetClearsTheControlState : Obligations.ResetClearsTheControlState := by
  refine ⟨rfl, fun s => ⟨_, _, _, _, _, _, _, _, rfl⟩, fun s p rest => step_of_rst, fun s t w hreset => ?_,
    fun s t _ _ _ hreset => ?_⟩
  · exact ⟨_, step_of_start_shown (exec_reset_stage hreset) w [], rfl, rfl⟩
  · cases hreset
    exact ⟨rfl, rfl, rfl, rfl⟩

end Sys2Proof.Machine
end

section
/-! ArgumentError and the priorities of the CORE (spec/60_exceptions.md R93, R94, R97): which execution raises ERR, what a
selection answered with an operand or a stage code says of the ports and of STAGE, and the two statements about them. -/

namespace Sys2Proof.Machine

/-! ## Which execution raises ERR -/

/-- CHECK raises ArgumentError on no positive operand: it would end in IDLE, and a positive operand goes to CLZ. -/
theorem exec_check_eq_raiseArgumentError_iff (s : State) :
    exec .check s = .next s.raiseArgumentError ↔ sint s.inReg ≤ 0 := by
  refine ⟨fun h => ?_, exec_check_of_nonpos⟩
  by_contra hpos
  have hstage := exec_check_stage h
  rw [if_neg hpos, State.raiseArgumentError_stage] at hstage
  exact absurd hstage (by decide)

/-- An execution keeps ERR, clears it (WB and RESET), or is CHECK of an operand that is not positive. -/
theorem exec_err_kept_or_cleared_or_check {i : Instr} {s t : State} (h : exec i s = .next t) :
    t.err = s.err ∨ t.err = 0#1 ∨ (i = .check ∧ sint s.inReg ≤ 0) := by
  cases i with
  | check =>
    by_cases hle : sint s.inReg ≤ 0
    · exact .inr (.inr ⟨rfl, hle⟩)
    · rw [exec_check_of_pos (not_le.1 hle)] at h
      cases h
      exact .inl rfl
  | start d =>
    simp only [exec, execStart] at h
    split at h <;> cases h <;> exact .inl rfl
  | wb | reset =>
    cases h
    exact .inr (.inl rfl)
  | reserved x => cases h
  | idle | clz | norm | half | seed | nr1 | nr2 | nr3 | recon | descale | sample =>
    cases h
    exact .inl rfl

/-- An instruction that takes ERR from 0 to 1 is CHECK of an operand that is not positive (R93). -/
theorem check_of_exec_raises_err {i : Instr} {s t : State} (h : exec i s = .next t) (hs : s.err = 0#1)
    (ht : t.err = 1#1) : i = .check ∧ sint s.inReg ≤ 0 := by
  have hraised : (1#1 : BitVec 1) ≠ 0#1 := by decide
  rcases exec_err_kept_or_cleared_or_check h with hkept | hcleared | hcheck
  · exact absurd (ht.symm.trans (hkept.trans hs)) hraised
  · exact absurd (ht.symm.trans hcleared) hraised
  · exact hcheck

/-- Settles O8: the four writes by definition, the two paths of CHECK, and what an execution does to ERR. -/
theorem argumentErrorFromCheckOnly : Obligations.ArgumentErrorFromCheckOnly :=
  ⟨fun _ => rfl, exec_check_eq_raiseArgumentError_iff, fun _ _ _ => check_of_exec_raises_err⟩

/-! ## What a selection says -/

/-- An operand is selected only in IDLE (R86). -/
theorem idle_of_select_eq_operand {p : InPorts} {c : BitVec 4} {d : Word} (h : select p c = .operand d) :
    c = codeIdle := by
  rcases select_cases p c with hrst | ⟨hidle, -⟩ | hstage
  · cases hrst.symm.trans h
  · exact hidle
  · cases hstage.symm.trans h

/-- A stage code is selected only as the one in STAGE, and only where no operand is taken: the CORE is busy or none is
presented. -/
theorem no_operand_of_select_eq_stage {p : InPorts} {c e : BitVec 4} (h : select p c = .stage e) :
    e = c ∧ (c ≠ codeIdle ∨ p.opValid = 0#1) := by
  have hr : p.rst ≠ 1#1 := fun hr => by cases (select_of_rst hr c).symm.trans h
  by_cases hs : c = codeIdle
  · subst hs
    rcases BitVec.eq_zero_or_eq_one p.opValid with hv | hv
    · cases (select_of_stage hr (.inl (ne_of_eq_of_ne hv (by decide)))).symm.trans h
      exact ⟨rfl, .inr hv⟩
    · cases (select_of_operand hr hv).symm.trans h
  · cases (select_of_stage hr (.inr hs)).symm.trans h
    exact ⟨rfl, .inl hs⟩

/-- Settles O32: the priority of reset, the two exclusive answers of a selection, and what an execution does to ERR. -/
theorem resetWins : Obligations.ResetWins :=
  ⟨fun _ c hr => select_of_rst hr c, fun _ _ _ => idle_of_select_eq_operand, fun _ _ _ => no_operand_of_select_eq_stage,
    fun _ _ _ h hs ht => (check_of_exec_raises_err h hs ht).1⟩

end Sys2Proof.Machine
end

section
/-! The CORE after reset (spec/70_reset_and_hazards.md R104): an idle CORE under a quiet host stays as it is, for any
number of steps, and the statement about it. -/

namespace Sys2Proof.Machine

/-- With no act of the host left, a step in IDLE changes nothing (R47). -/
theorem step_of_idle_quiet {s : State} (hs : s.stage = codeIdle) (hq : s.host = []) : step s = .next s := by
  rw [step_of_idle_sequencerMoves hs (.inl hq), State.afterFetch_of_host_nil hq]

/-- A state that a step leaves as it is stays so for any number of steps. -/
theorem run_of_step_fixed {s : State} (h : step s = .next s) (n : Nat) :
    Host.Core.run Sys2Proof.core n s = .next s := by
  induction n with
  | zero => rfl
  | succ n ih => rw [run_succ_of_next h, ih]

/-- An idle CORE under a quiet host executes nothing: no number of steps changes its state. -/
theorem run_of_idle_quiet {s : State} (hs : s.stage = codeIdle) (hq : s.host = []) (n : Nat) :
    Host.Core.run Sys2Proof.core n s = .next s :=
  run_of_step_fixed (step_of_idle_quiet hs hq) n

/-- RESET leaves no valid result (R89). -/
theorem exec_reset_valid {s t : State} (h : exec .reset s = .next t) : t.valid = 0#1 := by
  rw [← t.view_resValid, exec_reset_view h]

/-- Settles O33: the reset state and every state after RESET are idle without a valid result, and an idle CORE under a
quiet host stays as it is. -/
theorem idleAfterReset : Obligations.IdleAfterReset := by
  refine ⟨⟨State.opReady_of_idle rfl, State.busy_of_idle rfl, rfl⟩, run_of_idle_quiet rfl rfl,
    fun s t n hreset hquiet => ?_⟩
  have hidle := exec_reset_stage hreset
  exact ⟨State.opReady_of_idle hidle, State.busy_of_idle hidle, exec_reset_valid hreset,
    run_of_idle_quiet hidle hquiet n⟩

end Sys2Proof.Machine
end

section
/-! The decoder on numbers and the words placed for the next step (spec/30_encoding.md sections 2 and 3,
spec/40_sequencer_check.md R49): the encoder and the reader of numbers are inverse to each other, and the seven
statements about what a number decodes to and what a step selects. -/

namespace Sys2Proof

/-- The encoder is a left inverse of the decoder, on every form that reaches the CORE. -/
@[simp] theorem encode_decode (e : Encoding) : encode (decode e) = e := by
  cases e with
  | stage c => exact encode_decodeStage c
  | operand | rst | look => rfl

/-- The bits of a form, read at its width, are that form. -/
theorem ofBits_width_bits (e : Encoding) : Encoding.ofBits e.width e.bits = .ok e := by
  cases e with
  | stage c => simp [Encoding.ofBits, Encoding.width, Encoding.bits, c.isLt]
  | operand w => simp [Encoding.ofBits, Encoding.width, Encoding.bits, w.isLt]
  | rst | look => rfl

/-- A number read as a form is the bits of that form, at its width or as a whole byte with a stage code. -/
theorem bits_width_of_ofBits {nbits w : Nat} {e : Encoding} (h : Encoding.ofBits nbits w = .ok e) :
    e.bits = w ∧ (e.width = nbits ∨ (e.width = 4 ∧ nbits = 8)) := by
  simp only [Encoding.ofBits] at h
  split at h
  next hwidth =>
    split at h <;> cases h
    next hlt => exact ⟨Nat.mod_eq_of_lt hlt, hwidth.imp Eq.symm fun h8 => ⟨rfl, h8⟩⟩
  split at h
  next hwidth =>
    split at h <;> cases h
    next hlt => exact ⟨Nat.mod_eq_of_lt hlt, .inl hwidth.symm⟩
  split at h
  next hwidth =>
    split at h <;> cases h
    next hone => exact ⟨hone.symm, .inl hwidth.symm⟩
  split at h
  next hwidth =>
    split at h <;> cases h
    next hzero => exact ⟨hzero.symm, .inl hwidth.symm⟩
  cases h

/-- A number decodes to an instruction exactly when it is read as a form that decodes to it. -/
theorem decodeBits_eq_ok_iff {nbits w : Nat} {i : Instr} :
    decodeBits nbits w = .ok i ↔ ∃ e, Encoding.ofBits nbits w = .ok e ∧ decode e = i := by
  rw [decodeBits]
  cases Encoding.ofBits nbits w <;> simp

/-- A table word stands for an instruction exactly when its number decodes to it. -/
theorem decodeTableWord_eq_some_iff {nbits w : Nat} {i : Instr} :
    decodeTableWord nbits w = some i ↔ decodeBits nbits w = .ok i := by
  rw [decodeTableWord]
  cases decodeBits nbits w <;> simp

/-- Settles O3: the encoder and the decoder are inverse on forms, the bits and the reader of numbers are inverse on
numbers. -/
theorem decodeEncodeAgree : Obligations.DecodeEncodeAgree := by
  refine ⟨fun i => ⟨decode_encode i, ?_⟩, fun nbits w i h => ?_⟩
  · exact decodeBits_eq_ok_iff.2 ⟨_, ofBits_width_bits _, decode_encode i⟩
  · obtain ⟨e, he, rfl⟩ := decodeBits_eq_ok_iff.1 h
    rw [encode_decode]
    exact bits_width_of_ofBits he

/-- Settles O2: each word of the tables is read at its width and decoded. -/
theorem tableWordsDecode : Obligations.TableWordsDecode := by
  unfold Obligations.TableWordsDecode
  decide

namespace Machine

/-- The step after a placement executes the placed form on a state in which at most STAGE was set. -/
theorem step_place (s : State) (e : Encoding) : step (s.place e) = exec (decode e) (s.placed e) := by
  rw [step, place_fetch, place_afterFetch]

/-- Placing sets at most STAGE. -/
theorem placed_eq_self_or_stage (s : State) (e : Encoding) :
    s.placed e = s ∨ ∃ c : BitVec 4, s.placed e = { s with stage := c } := by
  cases e with
  | stage c => exact .inr ⟨c, rfl⟩
  | operand w => exact .inr ⟨codeIdle, rfl⟩
  | rst | look => exact .inl rfl

/-- Settles O5: the form that the word is read as is the one placed, and the step executes it. -/
theorem placedWordRunsNext : Obligations.PlacedWordRunsNext := by
  intro s nbits w i h
  obtain ⟨e, he, hi⟩ := decodeBits_eq_ok_iff.1 (decodeTableWord_eq_some_iff.1 h)
  have hword : s.withFetchWord nbits w = s.place e := by rw [State.withFetchWord, he]
  exact ⟨e, he, hi, by rw [hword, step_place, hi], placed_eq_self_or_stage s e⟩

/-- Settles O4: the definition of a step, and what it selects for each act of the host. -/
theorem stepRunsDecodedInstruction : Obligations.StepRunsDecodedInstruction := by
  refine ⟨fun _ => rfl, fun s hnil => ?_, fun s rest h => ?_, fun s p rest => step_of_rst,
    fun s p rest h hr hv hs => ?_, fun s p rest h hr hseq => ?_⟩
  · rw [step_of_sequencerMoves (.inl hnil), State.afterFetch_of_host_nil hnil]
  · rw [step, State.fetch, State.afterFetch, h]
    rfl
  · rw [step_of_drive h, (select_eq_operand_iff (ne_one_of_low hr) _).2 ⟨hv, hs⟩]
    rfl
  · rw [step_of_drive h, select_of_stage (ne_one_of_low hr) (hseq.imp_left ne_one_of_low)]

/-- Settles O29: with op_valid low both hosts select the same, RESET or the stage, whatever operand they show. -/
theorem operandIgnoredWithoutStart : Obligations.OperandIgnoredWithoutStart := by
  intro s p q rest hrst hp hq
  have hselect : select p s.stage = select q s.stage := by
    by_cases hr : p.rst = 1#1
    · rw [select_of_rst hr, select_of_rst (hrst ▸ hr)]
    · rw [select_of_stage hr (.inl (ne_one_of_low hp)), select_of_stage (hrst ▸ hr) (.inl (ne_one_of_low hq))]
  rw [step_of_drive rfl, step_of_drive rfl, hselect]

/-- A form that decodes to START is an operand. -/
theorem eq_operand_of_decode_eq_start {e : Encoding} {d : Word} (h : decode e = .start d) : e = .operand d := by
  rw [← encode_decode e, h]
  rfl

/-- A fetch answers an operand only in IDLE (R86). -/
theorem idle_of_fetch_eq_operand {s : State} {d : Word} (h : s.fetch = .operand d) : s.stage = codeIdle := by
  rcases fetch_cases s with hf | hf | ⟨hidle, -⟩ | hf
  · cases hf.symm.trans h
  · cases hf.symm.trans h
  · exact hidle
  · cases hf.symm.trans h

/-- Settles O53: START on a busy CORE keeps the state by definition, and a fetch answers an operand only in IDLE. -/
theorem busyStartChangesNothing : Obligations.BusyStartChangesNothing := fun _ _ hbusy =>
  ⟨if_neg hbusy, fun hstart => hbusy (idle_of_fetch_eq_operand (eq_operand_of_decode_eq_start hstart))⟩

end Machine
end Sys2Proof
end

section
/-! What each execution and each step writes (spec/10_state.md section 1, spec/20_memory.md R29, R31), SAMPLE and WB,
and the statements about single instructions and single values that need no more. -/

namespace Sys2Proof.Machine

/-! ## Single instructions and values -/

/-- WB writes VAR1 to OUT and ends the operation with Success (R70). -/
theorem exec_wb (s : State) :
    exec .wb s = .next { s with out := s.var1, err := 0#1, valid := 1#1, stage := codeIdle } := rfl

/-- Settles O26: the next state of WB, and the word of the example. -/
theorem writebackPublishesVar1 : Obligations.WritebackPublishesVar1 :=
  ⟨rfl, exec_wb, fun s hvar => by rw [exec_wb, hvar]⟩

/-- Settles O14: NORM writes whatever its two functions of LZ and NUM answer, and 31 div 2 is 15. -/
theorem unreachableCountsComplete : Obligations.UnreachableCountsComplete :=
  ⟨fun s => ⟨normSb s.lz s.num, normNum s.lz s.num, rfl⟩, fun _ hsb => exec_descale_of_half hsb rfl⟩

/-- Settles O54: SEED and the transform are the same functions on every word. -/
theorem seedCompletesOnEveryNum : Obligations.SeedCompletesOnEveryNum :=
  ⟨exec_seed, fun b _ => magic_eq_sub b⟩

/-- Settles O34: the reset state is a literal. -/
theorem resetValues : Obligations.ResetValues := ⟨rfl, rfl, rfl, rfl⟩

/-- A word that is not positive is an ArgumentError (R73). -/
theorem fixedSqrt_of_nonpos {w : Word} (h : sint w ≤ 0) : fixedSqrt w = (errorResult, statusArgumentError) :=
  if_pos h

/-- A legal operand succeeds (R73). -/
theorem fixedSqrt_of_legal {w : Word} (h : legalOperand w) : fixedSqrt w = (opOut w, statusSuccess) :=
  if_neg (not_le.2 h)

section Evaluation
set_option maxRecDepth 8000

/-- Settles O51: the four values, evaluated. -/
theorem goldenValues : Obligations.GoldenValues :=
  ⟨by decide, by decide, by decide, by decide⟩

/-- Settles O52: the four values, evaluated. -/
theorem notMonotonic : Obligations.NotMonotonic :=
  ⟨by decide, by decide, by decide, by decide⟩

end Evaluation

/-! ## The registers that an execution writes -/

/-- Settles O36: for each instruction, the fields of its next state that are not those of the state before. -/
theorem registerWriters : Obligations.RegisterWriters := by
  intro i s t h
  cases i with
  | check =>
    by_cases hle : sint s.inReg ≤ 0
    · rw [exec_check_of_nonpos hle] at h
      cases h
      simp
    · rw [exec_check_of_pos (not_le.1 hle)] at h
      cases h
      simp
  | start d =>
    simp only [exec, execStart] at h
    split at h <;> cases h <;> simp
  | reserved x => cases h
  | nr1 | nr2 | nr3 =>
    cases h
    simp [newtonUpdate]
  | idle | clz | norm | half | seed | recon | descale | wb | sample | reset =>
    cases h
    simp

/-- The encoding that is fetched is that of the instruction it decodes to. -/
theorem fetch_eq_encode {s : State} {i : Instr} (h : decode s.fetch = i) : s.fetch = encode i := by
  rw [← h, encode_decode]

/-- A fetched stage code is the one in STAGE. -/
theorem stage_of_fetch_eq_stage {s : State} {c : BitVec 4} (h : s.fetch = .stage c) : s.stage = c := by
  rcases fetch_cases s with hf | hf | ⟨-, d, hf⟩ | hf <;> cases hf.symm.trans h
  rfl

/-- CHECK writes OUT and ERR only where it raises ArgumentError and so ends the operation. -/
theorem exec_check_result_kept_or_ends {s t : State} (h : exec .check s = .next t) :
    (t.out = s.out ∧ t.err = s.err) ∨ (t.valid = 1#1 ∧ t.stage = codeIdle) := by
  by_cases hle : sint s.inReg ≤ 0
  · rw [exec_check_of_nonpos hle] at h
    cases h
    exact .inr ⟨rfl, rfl⟩
  · rw [exec_check_of_pos (not_le.1 hle)] at h
    cases h
    exact .inl ⟨rfl, rfl⟩

/-- Settles O37: the writers of OUT and ERR are CHECK, WB and RESET; CHECK that writes them ends the operation, and so
does WB. -/
theorem noTornResult : Obligations.NoTornResult := by
  intro s t h hchanged
  rw [step] at h
  obtain ⟨-, -, -, -, -, -, -, hout, herr, -⟩ := registerWriters _ _ _ h
  rcases hchanged.elim hout herr with hi | hi | hi <;> rw [hi] at h
  · refine .inl ?_
    have hstage := stage_of_fetch_eq_stage (fetch_eq_encode hi)
    rcases exec_check_result_kept_or_ends h with ⟨hkept, hkept'⟩ | ⟨hvalid, hidle⟩
    · exact absurd hchanged (not_or.2 ⟨not_not.2 hkept, not_not.2 hkept'⟩)
    · exact ⟨hvalid, hidle, .inl hstage⟩
  · have hstage := stage_of_fetch_eq_stage (fetch_eq_encode hi)
    cases h
    exact .inl ⟨rfl, rfl, .inr hstage⟩
  · exact .inr (fetch_eq_encode hi)

end Sys2Proof.Machine
end

section
/-! The invariant of an operation in flight (spec/10_state.md R10 to R18): it speaks of the eleven registers only, holds
in IDLE and in CHECK of the control registers alone, and every stage hands its registers on to its successor; the
statements that rest on it. -/

namespace Sys2Proof.Machine

/-! ## What the invariant says in a stage -/

/-- The model's own lists are no part of the invariant. -/
theorem State.Inv.of_bookkeeping {s : State} (h : s.Inv) (acts : List HostAct) (noted : List Sample) :
    ({ s with host := acts, samples := noted } : State).Inv :=
  ⟨h.stage_legal, h.result, h.legal, h.num_raw, h.lz_count, h.num_norm, h.sb_count, h.half_val, h.temp_val,
    h.var1_seed, h.var1_nr1, h.var1_nr2, h.var1_nr3, h.var1_recon, h.var1_descale⟩

/-- The result is valid only in IDLE. -/
theorem State.Inv.valid_of_busy {s : State} (h : s.Inv) (hs : s.stage ≠ codeIdle) : s.valid = 0#1 :=
  (BitVec.eq_zero_or_eq_one s.valid).resolve_right fun hv => hs (h.result hv).1

/-- In IDLE the invariant is that a valid result is the one of the operand in IN. -/
theorem inv_of_idle {s : State} (hs : s.stage = codeIdle)
    (hresult : s.valid = 1#1 → (s.out, s.err) = fixedSqrt s.inReg) : s.Inv := by
  constructor
  case result => exact fun hv => ⟨hs, hresult hv⟩
  all_goals simp [hs]

/-- In CHECK the invariant is that no result is valid. -/
theorem inv_of_check {s : State} (hs : s.stage = codeCheck) (hv : s.valid = 0#1) : s.Inv := by
  constructor
  all_goals simp [hs, hv]

/-- The value of VAR1 before the stage with code `c`, for the stages NR1 to WB (R57 to R69). -/
def var1Before (w : Word) (c : Nat) : Word :=
  match c with
  | 6 => opV0 w
  | 7 => opV1 w
  | 8 => opV2 w
  | 9 => opV3 w
  | 10 => opRec w
  | _ => opOut w

/-- From SEED on, a stage that writes only VAR1 keeps the invariant when the value is the one its successor reads. -/
theorem State.Inv.of_var1_update {s t : State} {v : Word} {c : BitVec 4} (h : s.Inv) (hs : 5 ≤ uint s.stage)
    (ht : (.next ((s.setVar1 v).goto c) : Result) = .next t) (hc : 6 ≤ uint c ∧ uint c ≤ 11)
    (hv : v = var1Before s.inReg (uint c)) : t.Inv := by
  obtain ⟨hlo, hhi⟩ := hc
  have hbusy : s.stage ≠ codeIdle := by
    intro hidle
    rw [hidle] at hs
    exact absurd hs (by decide)
  cases ht
  constructor
  case stage_legal => exact hhi
  case result => simp [h.valid_of_busy hbusy]
  case legal => exact fun _ => h.legal (by omega)
  case num_raw | lz_count =>
    simp only [State.goto_stage]
    omega
  case num_norm => exact fun _ => h.num_norm (by omega)
  case sb_count => exact fun _ => h.sb_count (by omega)
  case half_val => exact fun _ => h.half_val hs
  case temp_val => exact fun _ => h.temp_val hs
  all_goals
    intro hc
    simp only [State.goto_stage, State.goto_var1, State.goto_inReg, State.setVar1_var1, State.setVar1_inReg] at hc ⊢
    rw [hv, hc]
    rfl

/-! ## The normalising shift of a legal operand -/

/-- A legal operand has 1 to 31 leading zeros; `signBits` is one less. -/
theorem clz32_of_legal {w : Word} (h : legalOperand w) : clz32 w = opSb w + 1 ∧ opSb w ≤ 30 := by
  have hlo := clz32_pos_of_msb (msb_of_sint_pos h)
  have hhi := clz32_le_of_ne_zero (ne_zero_of_sint_pos h)
  rw [opSb]
  omega

/-- The normalised operand is the operand shifted by the amount of NORM. -/
theorem opNum_eq_shiftLeft (w : Word) : opNum w = w <<< normShift (opSb w) := by
  rw [opNum, opK, normShift_eq, shl_eq_shiftLeft]

/-! ## The stages -/

section Stages
variable {s t : State}

/-- CHECK hands the operand on in NUM, or ends the operation with an error. -/
theorem inv_after_check (h : s.Inv) (hs : s.stage = codeCheck) (ht : exec .check s = .next t) : t.Inv := by
  have hv := h.valid_of_busy (hs ▸ by decide)
  by_cases hle : sint s.inReg ≤ 0
  · rw [exec_check_of_nonpos hle] at ht
    cases ht
    exact inv_of_idle rfl fun _ => (fixedSqrt_of_nonpos hle).symm
  · rw [exec_check_of_pos (not_le.1 hle)] at ht
    cases ht
    constructor
    case legal => exact fun _ => not_le.1 hle
    all_goals simp [hv]

/-- CLZ hands the count on in LZ. -/
theorem inv_after_clz (h : s.Inv) (hs : s.stage = codeClz) (ht : exec .clz s = .next t) : t.Inv := by
  have hv := h.valid_of_busy (hs ▸ by decide)
  have hnum : s.num = s.inReg := h.num_raw (.inl (congrArg BitVec.toNat hs))
  have hlegal := h.legal (hs ▸ by decide)
  rw [exec_clz] at ht
  cases ht
  constructor
  case legal => exact fun _ => hlegal
  case num_raw => exact fun _ => hnum
  case lz_count => exact fun _ => (uint_ofNat_clz32 s.num).trans (congrArg clz32 hnum)
  all_goals simp [hv]

/-- NORM hands the normalised operand on in NUM and the count in SB. -/
theorem inv_after_norm (h : s.Inv) (hs : s.stage = codeNorm) (ht : exec .norm s = .next t) : t.Inv := by
  have hcode : uint s.stage = 3 := congrArg BitVec.toNat hs
  have hv := h.valid_of_busy (hs ▸ by decide)
  have hlegal := h.legal (by omega)
  obtain ⟨hclz, hsb⟩ := clz32_of_legal hlegal
  rw [exec_norm_of_lz ((h.lz_count hcode).trans hclz) hsb rfl, h.num_raw (.inr hcode), ← opNum_eq_shiftLeft] at ht
  cases ht
  constructor
  case legal => exact fun _ => hlegal
  case num_norm => exact fun _ => rfl
  case sb_count => exact fun _ => (BitVec.toNat_ofNat _ 5).trans (Nat.mod_eq_of_lt (by omega))
  all_goals simp [hv]

/-- HALF hands half of the normalised operand on in HALF and the normalised operand in TEMP. -/
theorem inv_after_half (h : s.Inv) (hs : s.stage = codeHalf) (ht : exec .half s = .next t) : t.Inv := by
  have hcode : uint s.stage = 4 := congrArg BitVec.toNat hs
  have hv := h.valid_of_busy (hs ▸ by decide)
  have hnum := h.num_norm hcode.ge
  rw [exec_half, ← asr_eq_sshiftRight (by decide), hnum] at ht
  cases ht
  constructor
  case legal => exact fun _ => h.legal (by omega)
  case sb_count => exact fun _ => h.sb_count hcode.ge
  case num_norm | half_val | temp_val => exact fun _ => rfl
  all_goals simp [hv]

/-- WB publishes the result of the operand in IN. -/
theorem inv_after_wb (h : s.Inv) (hs : s.stage = codeWb) (ht : exec .wb s = .next t) : t.Inv := by
  have hcode : uint s.stage = 11 := congrArg BitVec.toNat hs
  rw [exec_wb, h.var1_descale hcode] at ht
  cases ht
  exact inv_of_idle rfl fun _ => (fixedSqrt_of_legal (h.legal (by omega))).symm

end Stages

/-- Each of the twelve legal codes is that of a stage (R38). -/
theorem stage_code_cases : ∀ c : BitVec 4, uint c ≤ 11 →
    c = codeIdle ∨ c = codeCheck ∨ c = codeClz ∨ c = codeNorm ∨ c = codeHalf ∨ c = codeSeed ∨ c = codeNr1
      ∨ c = codeNr2 ∨ c = codeNr3 ∨ c = codeRecon ∨ c = codeDescale ∨ c = codeWb := by decide

/-- The sequencer's execution of any stage keeps the invariant. -/
theorem inv_after_stage {s t : State} (h : s.Inv) (ht : exec (decodeStage s.stage) s = .next t) : t.Inv := by
  rcases stage_code_cases s.stage h.stage_legal with
    hs | hs | hs | hs | hs | hs | hs | hs | hs | hs | hs | hs <;> rw [hs] at ht
  · cases ht
    exact h
  · exact inv_after_check h hs ht
  · exact inv_after_clz h hs ht
  · exact inv_after_norm h hs ht
  · exact inv_after_half h hs ht
  · refine h.of_var1_update (hs ▸ by decide) ht (by decide) ?_
    rw [h.num_norm (hs ▸ by decide)]
    rfl
  · refine h.of_var1_update (hs ▸ by decide) ht (by decide) ?_
    rw [h.half_val (hs ▸ by decide), h.var1_seed (congrArg BitVec.toNat hs)]
    rfl
  · refine h.of_var1_update (hs ▸ by decide) ht (by decide) ?_
    rw [h.half_val (hs ▸ by decide), h.var1_nr1 (congrArg BitVec.toNat hs)]
    rfl
  · refine h.of_var1_update (hs ▸ by decide) ht (by decide) ?_
    rw [h.half_val (hs ▸ by decide), h.var1_nr2 (congrArg BitVec.toNat hs)]
    rfl
  · refine h.of_var1_update (hs ▸ by decide) ht (by decide) ?_
    rw [h.temp_val (hs ▸ by decide), h.var1_nr3 (congrArg BitVec.toNat hs)]
    rfl
  · refine h.of_var1_update (hs ▸ by decide) ht (by decide) ?_
    rw [descaleShift_eq, h.sb_count (hs ▸ by decide), h.var1_recon (congrArg BitVec.toNat hs)]
    rfl
  · exact inv_after_wb h hs ht

/-! ## The statements -/

/-- A fetch uses up an act of the host, which is no part of the invariant. -/
theorem State.Inv.afterFetch {s : State} (h : s.Inv) : s.afterFetch.Inv := h.of_bookkeeping s.host.tail s.samples

/-- Settles O39: a look only notes the view, a reset and a START end in IDLE and in CHECK with no valid result, and each
stage hands on what its successor reads. -/
theorem operationInvariantKept : Obligations.OperationInvariantKept := by
  intro s t h ht
  rw [step] at ht
  rcases fetch_cases s with hf | hf | ⟨hidle, d, hf⟩ | hf <;> rw [hf] at ht
  · cases ht
    exact h.of_bookkeeping s.host.tail (s.view :: s.samples)
  · cases ht
    exact inv_of_idle rfl nofun
  · rw [decode, exec_start_of_idle (s := s.afterFetch) hidle] at ht
    cases ht
    exact inv_of_check rfl rfl
  · exact inv_after_stage h.afterFetch ht

/-- Settles O40: the reset state is idle with no valid result. -/
theorem operationInvariantAtReset : Obligations.OperationInvariantAtReset := inv_of_idle rfl nofun

/-- Settles O41: only a reserved code stops an execution, and a fetch answers with none where STAGE is legal. -/
theorem noStepStops : Obligations.NoStepStops := by
  intro s h
  refine exec_next_of_wellFormed _ _ fun x => ?_
  rcases fetch_cases s with hf | hf | ⟨-, d, hf⟩ | hf <;> rw [hf]
  · exact nofun
  · exact nofun
  · exact nofun
  · exact decodeStage_ne_reserved _ h.stage_legal x

/-- Settles O38: VALID = 1 puts the CORE in IDLE, where a look and the sequencer's step keep the result and a START
clears VALID only. -/
theorem resultHeldUntilStart : Obligations.ResultHeldUntilStart := by
  intro s t h hv ht
  obtain ⟨hidle, -⟩ := h.result hv
  rw [step] at ht
  rcases fetch_cases s with hf | hf | ⟨-, d, hf⟩ | hf
  · rw [hf] at ht
    cases ht
    exact .inr ⟨rfl, rfl, .inl hv⟩
  · exact .inl hf
  · rw [hf, decode, exec_start_of_idle (s := s.afterFetch) hidle] at ht
    cases ht
    exact .inr ⟨rfl, rfl, .inr ⟨rfl, d, hf⟩⟩
  · rw [hf, hidle] at ht
    cases ht
    exact .inr ⟨rfl, rfl, .inl hv⟩

/-- A valid result on the ports is that of the operand in IN, and the CORE is ready. -/
theorem State.Inv.view_of_valid {s : State} (h : s.Inv) (hv : s.valid = 1#1) : s.view = sqrtSample s.inReg := by
  obtain ⟨hidle, hresult⟩ := h.result hv
  rw [State.view, sqrtSample, hv, State.busy_of_idle hidle, ← hresult]

/-- Settles O30: SAMPLE notes the view and writes no register; under the invariant a valid view is the result of the
operand in IN, whose value in each example is golden. -/
theorem sampleReadsAndWritesNothing : Obligations.SampleReadsAndWritesNothing := by
  obtain ⟨hzero, -, -, hhalf⟩ := goldenValues
  refine ⟨fun _ => rfl, fun s rest => step_of_look, fun s h hv => ?_, fun s h hv hin => ?_, fun s h hv hin => ?_⟩
  · rw [h.view_of_valid hv]
    exact ⟨rfl, rfl⟩
  · rw [h.view_of_valid hv, hin, sqrtSample, hhalf]
  · rw [h.view_of_valid hv, hin, sqrtSample, hzero]

end Sys2Proof.Machine
end

section
/-! A run of an operation (spec/40_sequencer_check.md R50, spec/45_end_to_end.md R74): START, the steps in flight, which
each go one stage further and leave the result registers alone, and the last step, which publishes; the statements
about whole operations. -/

namespace Sys2Proof.Machine

/-! ## One step of an operation in flight -/

/-- What the steps of an operation in flight leave as it is until the last one. -/
structure State.Undisturbed (s t : State) : Prop where
  /-- IN holds the operand. -/
  inReg : t.inReg = s.inReg
  /-- OUT holds the previous result. -/
  out : t.out = s.out
  /-- ERR holds the previous status. -/
  err : t.err = s.err
  /-- VALID is not written. -/
  valid : t.valid = s.valid
  /-- The host has noted nothing. -/
  samples : t.samples = s.samples
  /-- No RESET has drawn free values. -/
  resets : t.resets = s.resets

/-- A state is undisturbed with respect to itself. -/
theorem State.Undisturbed.refl (s : State) : s.Undisturbed s := ⟨rfl, rfl, rfl, rfl, rfl, rfl⟩

/-- A fetch uses up an act of the host only. -/
theorem State.Undisturbed.afterFetch (s : State) : s.Undisturbed s.afterFetch := ⟨rfl, rfl, rfl, rfl, rfl, rfl⟩

/-- Steps that leave these fields follow one another. -/
theorem State.Undisturbed.trans {s t u : State} (h : s.Undisturbed t) (h' : t.Undisturbed u) : s.Undisturbed u :=
  ⟨h'.inReg.trans h.inReg, h'.out.trans h.out, h'.err.trans h.err, h'.valid.trans h.valid,
    h'.samples.trans h.samples, h'.resets.trans h.resets⟩

/-- A legal operand takes 11 steps of the sequencer (R50). -/
theorem opSteps_of_legal {w : Word} (h : legalOperand w) : opSteps w = 11 := if_pos h

/-- Any other operand takes one step (R50). -/
theorem opSteps_of_nonpos {w : Word} (h : sint w ≤ 0) : opSteps w = 1 := if_neg (not_lt.2 h)

/-- An operation takes at least one step, and more than one only for a legal operand. -/
theorem opSteps_range (w : Word) : 1 ≤ opSteps w ∧ opSteps w ≤ 11 ∧ (1 < opSteps w → legalOperand w) := by
  by_cases h : legalOperand w
  · rw [opSteps_of_legal h]
    exact ⟨by decide, le_rfl, fun _ => h⟩
  · rw [opSteps_of_nonpos (not_lt.1 h)]
    exact ⟨le_rfl, by decide, fun hlt => absurd hlt (lt_irrefl 1)⟩

/-- The stages that a legal operation passes before WB. -/
theorem in_flight_code_cases : ∀ c : BitVec 4, 1 ≤ uint c → uint c ≤ 10 →
    c = codeCheck ∨ c = codeClz ∨ c = codeNorm ∨ c = codeHalf ∨ c = codeSeed ∨ c = codeNr1 ∨ c = codeNr2
      ∨ c = codeNr3 ∨ c = codeRecon ∨ c = codeDescale := by decide

/-- Before its last stage an operation goes one stage further and writes neither its operand nor the result. -/
theorem exec_stage_advances {s : State} (hlo : 1 ≤ uint s.stage) (hhi : uint s.stage < opSteps s.inReg) :
    ∃ t, exec (decodeStage s.stage) s = .next t ∧ uint t.stage = uint s.stage + 1 ∧ s.Undisturbed t
      ∧ t.host = s.host := by
  obtain ⟨-, hmax, hlegal⟩ := opSteps_range s.inReg
  rcases in_flight_code_cases s.stage hlo (by omega) with hs | hs | hs | hs | hs | hs | hs | hs | hs | hs <;>
    rw [hs] at hhi ⊢
  · exact ⟨_, exec_check_of_pos (hlegal hhi), rfl, ⟨rfl, rfl, rfl, rfl, rfl, rfl⟩, rfl⟩
  all_goals exact ⟨_, rfl, rfl, ⟨rfl, rfl, rfl, rfl, rfl, rfl⟩, rfl⟩

/-- In its last stage, CHECK of an illegal operand or WB, an operation publishes its result and ends. -/
theorem exec_stage_ends {s : State} (hlast : uint s.stage = opSteps s.inReg) :
    ∃ t, exec (decodeStage s.stage) s = .next t ∧ t.valid = 1#1 ∧ t.inReg = s.inReg ∧ t.host = s.host
      ∧ t.samples = s.samples ∧ t.resets = s.resets := by
  by_cases hle : sint s.inReg ≤ 0
  · have hs : s.stage = codeCheck := BitVec.eq_of_toNat_eq (hlast.trans (opSteps_of_nonpos hle))
    rw [hs]
    exact ⟨_, exec_check_of_nonpos hle, rfl, rfl, rfl, rfl, rfl⟩
  · have hs : s.stage = codeWb := BitVec.eq_of_toNat_eq (hlast.trans (opSteps_of_legal (not_le.1 hle)))
    rw [hs]
    exact ⟨_, exec_wb s, rfl, rfl, rfl, rfl, rfl⟩

/-! ## The host during an operation -/

/-- A busy CORE whose host neither looks nor asserts rst takes the sequencer's step (R49, R87). -/
theorem sequencerMoves_of_busy {s : State} (hs : s.stage ≠ codeIdle) (h : ∀ a ∈ s.host.head?, a.letsRun = true) :
    s.sequencerMoves := by
  cases hhost : s.host with
  | nil => exact .inl hhost
  | cons a rest =>
    have ha : a.letsRun = true := h a (by rw [hhost]; rfl)
    cases a with
    | drive p => exact .inr ⟨p, rest, hhost, eq_of_beq ha, .inr hs⟩
    | sample => cases ha

/-- A stage code from 1 on is not that of IDLE. -/
theorem ne_codeIdle_of_pos {c : BitVec 4} (h : 1 ≤ uint c) : c ≠ codeIdle := by
  rintro rfl
  exact absurd h (by decide)

/-- Where the `m`-th of the host's remaining acts lets the operation run, a busy CORE executes the stage in STAGE. -/
theorem step_of_busy {u : State} {rest : List HostAct} {m : Nat} (hbusy : 1 ≤ uint u.stage)
    (hhost : u.host = rest.drop m) (hruns : ∀ a ∈ rest.take (m + 1), a.letsRun = true) :
    step u = exec (decodeStage u.afterFetch.stage) u.afterFetch := by
  refine step_of_sequencerMoves (sequencerMoves_of_busy (ne_codeIdle_of_pos hbusy) fun a ha => hruns a ?_)
  rw [hhost, List.head?_drop] at ha
  rw [List.take_add_one]
  exact List.mem_append_right _ (Option.mem_toList.2 ha)

/-! ## The run -/

/-- An idle CORE that has just taken the operand `w`; its host goes on with `rest` (R86). -/
def State.started (s : State) (w : Word) (rest : List HostAct) : State :=
  { s with inReg := w, valid := 0#1, stage := codeCheck, host := rest }

section Run
variable {s : State} {w : Word} {rest : List HostAct}

/-- After START and `m` steps of the sequencer, fewer than the operation needs, the operation is in its next stage. -/
theorem run_in_flight (hs : s.stage = codeIdle) (hhost : s.host = .drive (startPorts w) :: rest) {m : Nat}
    (hm : m < opSteps w) (hruns : ∀ a ∈ rest.take m, a.letsRun = true) :
    ∃ u : State, Host.Core.run Sys2Proof.core (m + 1) s = .next u ∧ u.Inv ∧ uint u.stage = m + 1
      ∧ (s.started w rest).Undisturbed u ∧ u.host = rest.drop m := by
  induction m with
  | zero =>
    have hstart : step s = .next (s.started w rest) := step_of_start hhost (ne_one_of_low rfl) rfl hs
    exact ⟨_, run_succ_of_next hstart 0, inv_of_check rfl rfl, rfl, .refl _, rfl⟩
  | succ m ih =>
    obtain ⟨u, hrun, hinv, hstage, hsame, hhost'⟩ :=
      ih (by omega) fun a ha => hruns a (List.take_subset_take_left _ (Nat.le_succ m) ha)
    have hstep := step_of_busy (by omega) hhost' hruns
    have hin : u.inReg = w := hsame.inReg
    obtain ⟨v, hv, hstage', hsame', hhost''⟩ :=
      exec_stage_advances (s := u.afterFetch) (show 1 ≤ uint u.stage by omega)
        (show uint u.stage < opSteps u.inReg by rw [hin]; omega)
    rw [← hstep] at hv
    refine ⟨v, ?_, operationInvariantKept _ _ hinv hv, ?_, (hsame.trans (.afterFetch u)).trans hsame', ?_⟩
    · rw [run_add_of_next hrun 1, run_succ_of_next hv, run_zero]
    · rw [hstage', State.afterFetch_stage, hstage]
    · rw [hhost'', State.afterFetch_host, hhost', List.tail_drop]

/-- After START and all its steps an operation has published the result of its operand. -/
theorem run_operation (hs : s.stage = codeIdle) (hhost : s.host = .drive (startPorts w) :: rest)
    (hruns : ∀ a ∈ rest.take (opSteps w), a.letsRun = true) :
    ∃ t : State, Host.Core.run Sys2Proof.core (opSteps w + 1) s = .next t ∧ t.Inv ∧ t.valid = 1#1 ∧ t.inReg = w
      ∧ t.host = rest.drop (opSteps w) ∧ t.samples = s.samples ∧ t.resets = s.resets := by
  obtain ⟨hpos, -, -⟩ := opSteps_range w
  obtain ⟨m, hm⟩ : ∃ m, opSteps w = m + 1 := ⟨opSteps w - 1, by omega⟩
  rw [hm] at hruns
  obtain ⟨u, hrun, hinv, hstage, hsame, hhost'⟩ :=
    run_in_flight hs hhost (by omega) fun a ha => hruns a (List.take_subset_take_left _ (Nat.le_succ m) ha)
  have hstep := step_of_busy (by omega) hhost' hruns
  have hin : u.inReg = w := hsame.inReg
  obtain ⟨t, ht, hvalid, hin', hhost'', hsamples, hresets⟩ :=
    exec_stage_ends (s := u.afterFetch) (show uint u.stage = opSteps u.inReg by rw [hin, hm, hstage])
  rw [← hstep] at ht
  refine ⟨t, ?_, operationInvariantKept _ _ hinv ht, hvalid, hin'.trans hin, ?_, hsamples.trans hsame.samples,
    hresets.trans hsame.resets⟩
  · rw [hm, run_add_of_next hrun 1, run_succ_of_next ht, run_zero]
  · rw [hhost'', State.afterFetch_host, hhost', List.tail_drop, hm]

end Run

/-! ## The statements -/

/-- Settles O42: the run to the end, whose result the invariant gives, and the run to every step before it. -/
theorem sequencerComputesFixedSqrt : Obligations.SequencerComputesFixedSqrt := by
  intro s w rest hs hhost hruns
  refine ⟨?_, fun m hlo hhi => ?_⟩
  · obtain ⟨t, hrun, hinv, hvalid, hin, hrest, hsamples, hresets⟩ := run_operation hs hhost hruns
    obtain ⟨hidle, hresult⟩ := hinv.result hvalid
    exact ⟨t, hrun, hin ▸ hresult, hvalid, hidle, hin, hrest, hsamples, hresets⟩
  · obtain ⟨j, rfl⟩ : ∃ j, m = j + 1 := ⟨m - 1, by omega⟩
    obtain ⟨u, hrun, -, hstage, hsame, -⟩ :=
      run_in_flight hs hhost hhi fun a ha => hruns a (List.take_subset_take_left _ (by omega) ha)
    exact ⟨u, hrun, ne_codeIdle_of_pos (by omega), hsame.valid, hsame.out, hsame.err⟩

/-- Settles O43: both runs end with the view of the operand's result. -/
theorem resultDependsOnOperandAlone : Obligations.ResultDependsOnOperandAlone := by
  intro s s' w rest rest' hs hs' hhost hhost' hruns hruns'
  obtain ⟨t, hrun, hinv, hvalid, hin, -⟩ := run_operation hs hhost hruns
  obtain ⟨t', hrun', hinv', hvalid', hin', -⟩ := run_operation hs' hhost' hruns'
  refine ⟨t, t', hrun, hrun', ?_, hvalid⟩
  rw [hinv.view_of_valid hvalid, hinv'.view_of_valid hvalid', hin, hin']

/-- The script `SQRT w` from an idle CORE makes the host note the result and leaves the CORE idle (R91). -/
theorem run_sqrtScript {s : State} {w : Word} {rest : List HostAct} (hs : s.stage = codeIdle)
    (hhost : s.host = sqrtScript w ++ rest) :
    ∃ t : State, Host.Core.run Sys2Proof.core (sqrtScript w).length s = .next t ∧ t.stage = codeIdle ∧ t.host = rest
      ∧ t.samples = sqrtSample w :: s.samples := by
  have hlength : (List.replicate (opSteps w) (HostAct.drive quietPorts)).length = opSteps w := List.length_replicate
  have hhost' : s.host = .drive (startPorts w) ::
      (List.replicate (opSteps w) (.drive quietPorts) ++ (.sample :: rest)) := by
    rw [hhost, sqrtScript, List.cons_append, List.append_assoc, List.singleton_append]
  obtain ⟨u, hrun, hinv, hvalid, hin, hleft, hsamples, -⟩ := run_operation hs hhost' fun a ha => by
    rw [List.take_left' hlength] at ha
    rw [List.eq_of_mem_replicate ha]
    rfl
  rw [List.drop_left' hlength] at hleft
  obtain ⟨hidle, -⟩ := hinv.result hvalid
  have hlen : (sqrtScript w).length = opSteps w + 1 + 1 := by simp [sqrtScript]
  refine ⟨{ u with host := rest, samples := u.view :: u.samples }, ?_, hidle, rfl, ?_⟩
  · rw [hlen, run_add_of_next hrun 1, run_succ_of_next (step_of_look hleft), run_zero]
  · rw [hinv.view_of_valid hvalid, hin, hsamples]

/-- Settles O44: by induction on the operands, one script after the other. -/
theorem backToBackResults : Obligations.BackToBackResults := by
  intro ws
  induction ws with
  | nil => exact fun s hs hhost => ⟨s, rfl, rfl, hs, hhost⟩
  | cons w ws ih =>
    intro s hs hhost
    obtain ⟨u, hrun, hidle, hrest, hnoted⟩ := run_sqrtScript hs hhost
    obtain ⟨t, hrun', hsamples, hidle', hnil⟩ := ih u hidle hrest
    refine ⟨t, ?_, ?_, hidle', hnil⟩
    · rw [sqrtScripts, List.length_append, run_add_of_next hrun, hrun']
    · rw [hsamples, hnoted, List.map_cons, List.reverse_cons, List.append_assoc, List.singleton_append]

/-- Settles O45: the operation is in flight when the port rst is asserted, and RESET clears the four registers. -/
theorem resetAbandonsOperation : Obligations.ResetAbandonsOperation := by
  intro s w m rest hs hm hhost
  have hlength : (List.replicate m (HostAct.drive quietPorts)).length = m := List.length_replicate
  obtain ⟨u, hrun, -, -, -, hleft⟩ := run_in_flight hs hhost hm fun a ha => by
    rw [List.take_left' hlength] at ha
    rw [List.eq_of_mem_replicate ha]
    rfl
  rw [List.drop_left' hlength] at hleft
  obtain ⟨t, ht⟩ : ∃ t, exec .reset { u with host := rest } = .next t := ⟨_, rfl⟩
  have hrun' : Host.Core.run Sys2Proof.core (m + 2) s = .next t := by
    rw [run_add_of_next hrun 1, run_succ_of_next ((step_of_rst hleft rfl).trans ht), run_zero]
  cases ht
  exact ⟨_, hrun', rfl, rfl, rfl, rfl, rfl⟩

end Sys2Proof.Machine
end

section
/-! Normalisation (spec/41_clz_normalize.md R54, R56, spec/45_end_to_end.md R75): the operand and its normalised number
as integers, the one shift that normalises, and the two statements about it. -/

namespace Sys2Proof.Machine

/-! ## The normalised number as an integer -/

/-- A legal operand reads the same signed and unsigned. -/
theorem sint_of_legal {w : Word} (h : legalOperand w) : sint w = uint w :=
  BitVec.toInt_eq_toNat_of_msb (msb_of_sint_pos h)

/-- The size of a legal operand by `signBits`. -/
theorem uint_range_of_legal {w : Word} (h : legalOperand w) :
    2 ^ (30 - opSb w) ≤ uint w ∧ uint w < 2 ^ (31 - opSb w) := by
  obtain ⟨-, -, -, hlo, hhi⟩ := leadingZeroCount.1 w (ne_zero_of_sint_pos h)
  obtain ⟨hclz, -⟩ := clz32_of_legal h
  rw [hclz] at hlo hhi
  exact ⟨by rwa [show 30 - opSb w = 31 - (opSb w + 1) by omega],
    by rwa [show 31 - opSb w = 32 - (opSb w + 1) by omega]⟩

/-- The shift of NORM loses no 1 bit of the operand. -/
theorem uint_opNum {w : Word} (h : legalOperand w) : uint (opNum w) = uint w * 4 ^ opK w := by
  obtain ⟨hclz, -⟩ := clz32_of_legal h
  have hfits : 2 * opK w ≤ clz32 w := by
    rw [opK]
    omega
  rw [opNum, shl_eq_shiftLeft, uint_shiftLeft_of_le_clz32 hfits, pow_mul]
  rfl

/-- The top bit of the normalised number is bit 30 less the parity of `signBits`. -/
theorem uint_opNum_range {w : Word} (h : legalOperand w) :
    2 ^ (30 - opSb w % 2) ≤ uint (opNum w) ∧ uint (opNum w) < 2 ^ (31 - opSb w % 2) := by
  obtain ⟨hlo, hhi⟩ := uint_range_of_legal h
  obtain ⟨-, hsb⟩ := clz32_of_legal h
  have hpow : (4 : Nat) ^ opK w = 2 ^ (2 * opK w) := (pow_mul 2 2 _).symm
  have hk : opSb w = 2 * opK w + opSb w % 2 := (Nat.div_add_mod _ 2).symm
  rw [uint_opNum h, hpow, show 30 - opSb w % 2 = 30 - opSb w + 2 * opK w by omega,
    show 31 - opSb w % 2 = 31 - opSb w + 2 * opK w by omega, pow_add, pow_add]
  exact ⟨Nat.mul_le_mul_right _ hlo, Nat.mul_lt_mul_of_pos_right hhi (Nat.two_pow_pos _)⟩

/-- The normalised number is in [2^29, 2^31), unsigned. -/
theorem uint_opNum_bounds {w : Word} (h : legalOperand w) : 2 ^ 29 ≤ uint (opNum w) ∧ uint (opNum w) < 2 ^ 31 := by
  obtain ⟨hlo, hhi⟩ := uint_opNum_range h
  rcases Nat.mod_two_eq_zero_or_one (opSb w) with hpar | hpar <;> rw [hpar] at hlo hhi <;> omega

/-- The normalised number reads the same signed and unsigned. -/
theorem sint_opNum {w : Word} (h : legalOperand w) : sint (opNum w) = uint (opNum w) :=
  sint_eq_uint_of_lt (uint_opNum_bounds h).2

/-- The normalised number is normalised (R54(d)). -/
theorem normalised_opNum {w : Word} (h : legalOperand w) : normalised (opNum w) := by
  obtain ⟨hlo, hhi⟩ := uint_opNum_bounds h
  rw [normalised, sint_opNum h]
  omega

/-! ## The shift that normalises -/

/-- Only one power of four brings a number into [2^29, 2^31), for the range spans a single factor of four. -/
theorem normalising_power_unique {n j k : Nat} (hj : 2 ^ 29 ≤ n * 4 ^ j ∧ n * 4 ^ j < 2 ^ 31)
    (hk : 2 ^ 29 ≤ n * 4 ^ k ∧ n * 4 ^ k < 2 ^ 31) : j = k := by
  have hstep {a b : Nat} (hab : a < b) : n * 4 ^ a * 4 ≤ n * 4 ^ b := by
    rw [mul_assoc, ← pow_succ]
    exact Nat.mul_le_mul_left _ (Nat.pow_le_pow_right (by decide) hab)
  rcases lt_trichotomy j k with hlt | heq | hlt
  · have := hstep hlt
    omega
  · exact heq
  · have := hstep hlt
    omega

/-- A power of four that normalises the operand is the one of R73. -/
theorem opK_eq_of_range {w : Word} (h : legalOperand w) {j : Nat}
    (hj : 2 ^ 29 ≤ uint w * 4 ^ j ∧ uint w * 4 ^ j < 2 ^ 31) : opK w = j := by
  have hk := uint_opNum_bounds h
  rw [uint_opNum h] at hk
  exact normalising_power_unique hk hj

/-- A normalised number is a legal operand that needs no shift. -/
theorem opK_of_normalised {v : Word} (h : normalised v) : opK v = 0 := by
  obtain ⟨hlo, hhi⟩ := uint_range_of_normalised h
  obtain ⟨hpos, -⟩ := h
  exact opK_eq_of_range (show 0 < sint v by omega) (by omega)

/-- A normalised number is its own normalised number. -/
theorem opNum_of_normalised {v : Word} (h : normalised v) : opNum v = v := by
  rw [opNum, opK_of_normalised h, shl_eq_shiftLeft]
  exact BitVec.shiftLeft_zero v

/-- Settles O15: the exact shift, the range by the parity of `signBits`, and the shift amounts of NORM and DESCALE. -/
theorem normalisedNumberRange : Obligations.NormalisedNumberRange := by
  refine ⟨fun w h => ?_, fun sb _ => ⟨normShift_eq sb, descaleShift_eq sb⟩, fun w => opNum_of_normalised⟩
  obtain ⟨-, hsb⟩ := clz32_of_legal h
  obtain ⟨hlo, hhi⟩ := uint_opNum_range h
  refine ⟨hsb, ?_, fun hpar => ?_, fun hpar => ?_, normalised_opNum h⟩
  · rw [sint_opNum h, sint_of_legal h, uint_opNum h, pow_mul]
    push_cast
    rfl
  all_goals
    rw [hpar] at hlo hhi
    rw [sint_opNum h]
    omega

/-! ## Operands that share their normalised number -/

section Shared
variable {v w : Word} (h : opNum w = opNum v)
include h

/-- The last estimate depends on the normalised number alone. -/
theorem opV3_congr : opV3 w = opV3 v := by
  simp only [opV3, opV2, opV1, opV0, opHalf, h]

/-- The reconstructed root depends on the normalised number alone. -/
theorem opRec_congr : opRec w = opRec v := by
  rw [opRec, opRec, h, opV3_congr h]

end Shared

/-- Settles O50: a factor of 4^j takes j off the power of four that normalises. -/
theorem scalingByPowersOfFour : Obligations.ScalingByPowersOfFour := by
  refine ⟨fun w h => ?_, fun v w j hv hw => ?_⟩
  · have hnum := normalised_opNum h
    refine ⟨?_, opK_of_normalised hnum⟩
    rw [opOut, sint_asr (by decide), opRec_congr (opNum_of_normalised hnum)]
  · have hlegal : legalOperand w := by
      rw [legalOperand, hw]
      exact mul_pos hv (by positivity)
    have hscaled : uint w = uint v * 4 ^ j := by
      rw [sint_of_legal hlegal, sint_of_legal hv] at hw
      exact_mod_cast hw
    have hproduct : uint v * 4 ^ (opK w + j) = uint (opNum w) := by
      rw [uint_opNum hlegal, hscaled, pow_add]
      ring
    have hk : opK v = opK w + j := opK_eq_of_range hv (hproduct ▸ uint_opNum_bounds hlegal)
    have hnum : opNum w = opNum v := BitVec.eq_of_toNat_eq (by
      rw [← uint_def, ← uint_def, ← hproduct, uint_opNum hv, hk])
    exact ⟨hnum, opV3_congr hnum, opRec_congr hnum, hk⟩

/-! ## Normalisation on unbounded integers -/

/-- `k` over unbounded integers: the most significant 1 bit of the operand is at 30 less `signBits`. -/
theorem opK_eq_intK {w : Word} (h : legalOperand w) : opK w = intK (uint w) := by
  obtain ⟨hlo, hhi⟩ := uint_range_of_legal h
  obtain ⟨-, hsb⟩ := clz32_of_legal h
  have hlog : Nat.log2 (uint w) = 30 - opSb w := by
    rw [Nat.log2_eq_log_two]
    exact Nat.log_eq_of_pow_le_of_lt_pow hlo (by rwa [show 30 - opSb w + 1 = 31 - opSb w by omega])
  rw [intK, hlog, opK, show 30 - (30 - opSb w) = opSb w by omega]

/-- `num` over unbounded integers. -/
theorem sint_opNum_eq_intNum {w : Word} (h : legalOperand w) : sint (opNum w) = intNum (uint w) := by
  rw [sint_opNum h, uint_opNum h, intNum, opK_eq_intK h]
  push_cast
  rfl

/-- `half` over unbounded integers. -/
theorem sint_opHalf {w : Word} (h : legalOperand w) : sint (opHalf w) = intHalf (uint w) := by
  rw [opHalf, sint_asr (by decide), pow_one, sint_opNum_eq_intNum h, intHalf]

end Sys2Proof.Machine
end

section
/-! The seed of a normalised number (spec/42_seed.md R57 to R61): rounding to the nearest binary32 number, the order and
the range of the three wires, their values over unbounded integers, and the two statements about them. -/

namespace Sys2Proof.Machine

/-! ## Rounding -/

/-- The significand of a number with top bit 30: the unit in the last place is 128. -/
theorem roundSignificand_upper {n : Nat} (h : 2 ^ 30 ≤ n) :
    roundSignificand n = if 64 < n % 128 ∨ (n % 128 = 64 ∧ n / 128 % 2 = 1) then n / 128 + 1 else n / 128 := by
  rw [roundSignificand, topBit, if_pos h]
  rfl

/-- The significand of a number with top bit 29: the unit in the last place is 64. -/
theorem roundSignificand_lower {n : Nat} (h : n < 2 ^ 30) :
    roundSignificand n = if 32 < n % 64 ∨ (n % 64 = 32 ∧ n / 64 % 2 = 1) then n / 64 + 1 else n / 64 := by
  rw [roundSignificand, topBit, if_neg (not_le.2 h)]
  rfl

/-- The top bit of the upper binade. -/
theorem topBit_upper {n : Nat} (h : 2 ^ 30 ≤ n) : topBit n = 30 := if_pos h

/-- The top bit of the lower binade. -/
theorem topBit_lower {n : Nat} (h : n < 2 ^ 30) : topBit n = 29 := if_neg (not_le.2 h)

/-- The rounded significand is the nearest, and even on a tie (R58, D11). -/
theorem roundSignificand_nearest {n ulp : Nat} (hulp : ulp = if 2 ^ 30 ≤ n then 128 else 64) :
    2 * (roundSignificand n * ulp) ≤ 2 * n + ulp ∧ 2 * n ≤ 2 * (roundSignificand n * ulp) + ulp
      ∧ (2 * (roundSignificand n * ulp) = 2 * n + ulp ∨ 2 * n = 2 * (roundSignificand n * ulp) + ulp →
          roundSignificand n % 2 = 0) := by
  subst hulp
  split
  next h =>
    rw [roundSignificand_upper h]
    split <;> omega
  next h =>
    rw [roundSignificand_lower (not_le.1 h)]
    split <;> omega

/-- The number that the pattern stands for, in units of 2^-31, is the significand in units of the last place; where the
rounding carries, the exponent is one more and the fraction 0. -/
theorem binary32_value_i2f {v : Word} (h : normalised v) :
    125 ≤ expField (i2f v) ∧ expField (i2f v) ≤ 127 ∧
      (2 ^ 23 + fracField (i2f v)) * 2 ^ (expField (i2f v) - 119)
        = roundSignificand (uint v) * if 2 ^ 30 ≤ uint v then 128 else 64 := by
  obtain ⟨hlo, hhi⟩ := uint_range_of_normalised h
  obtain ⟨hm, hm'⟩ := roundSignificand_range hlo hhi
  have hb := uint_i2f h
  rw [expField_eq, fracField_eq]
  by_cases hcarry : roundSignificand (uint v) = 2 ^ 24
  · have hexp : uint (i2f v) / 2 ^ 23 % 2 ^ 8 = 97 + topBit (uint v) := by
      have := topBit_range (uint v)
      omega
    have hfrac : uint (i2f v) % 2 ^ 23 = 0 := by omega
    rw [hexp, hfrac, hcarry, topBit]
    split <;> decide
  · have hexp : uint (i2f v) / 2 ^ 23 % 2 ^ 8 = 96 + topBit (uint v) := by
      have := topBit_range (uint v)
      omega
    have hfrac : uint (i2f v) % 2 ^ 23 = roundSignificand (uint v) - 2 ^ 23 := by omega
    rw [hexp, hfrac, topBit]
    split <;> norm_num <;> omega

/-- A normalised number reads the same signed and unsigned. -/
theorem sint_of_normalised {v : Word} (h : normalised v) : sint v = uint v :=
  sint_eq_uint_of_lt (uint_range_of_normalised h).2

/-- A word that is at least 2^29 is normalised. -/
theorem normalised_of_le {v : Word} (h : 2 ^ 29 ≤ sint v) : normalised v := ⟨h, (sint_range v).2⟩

/-- Settles O18: the number of the pattern is the rounded significand, which is the nearest and even on a tie; a corner
case is a binade's last numbers, whose rounding carries. -/
theorem integerToBinary32RoundsToNearestEven : Obligations.IntegerToBinary32RoundsToNearestEven := by
  refine ⟨fun v ulp g n h hn hulp hg => ?_, by decide, by decide, by decide, fun v hv => ?_, fun v hlo hhi => ?_⟩
  · obtain ⟨hexp, hexp', hvalue⟩ := binary32_value_i2f h
    have hsame := sint_of_normalised h
    generalize hu : (if 2 ^ 30 ≤ uint v then 128 else 64) = u at hvalue
    obtain ⟨hup, hdown, heven⟩ := roundSignificand_nearest hu.symm
    have hulp' : ulp = u := by
      subst hulp hn hu
      split <;> split <;> omega
    have hu0 : 0 < u := by
      subst hu
      split <;> decide
    have hg' : g = (roundSignificand (uint v) : Int) * u := by
      rw [hg]
      exact_mod_cast hvalue
    refine ⟨getLsbD_31_i2f h, hexp, hexp', ?_, by omega, by omega, fun htie => ?_⟩
    · rw [hg', hulp', Int.mul_emod_left]
    · have hround := heven (by omega)
      rw [hg', hulp', Int.mul_ediv_cancel _ (by omega)]
      omega
  · have h : normalised v := normalised_of_le (by omega)
    have hb := uint_i2f h
    have hsame := sint_of_normalised h
    have hhi := (uint_range_of_normalised h).2
    have hupper : 2 ^ 30 ≤ uint v := by omega
    rw [topBit_upper hupper, roundSignificand_upper hupper, if_pos (by omega)] at hb
    refine BitVec.eq_of_toNat_eq (Eq.trans hb ?_)
    rw [BitVec.toNat_ofNat]
    omega
  · have h : normalised v := normalised_of_le (by omega)
    have hb := uint_i2f h
    have hsame := sint_of_normalised h
    have hlower : uint v < 2 ^ 30 := by omega
    rw [topBit_lower hlower, roundSignificand_lower hlower, if_pos (by omega)] at hb
    refine BitVec.eq_of_toNat_eq (Eq.trans hb ?_)
    rw [BitVec.toNat_ofNat]
    omega

/-! ## Range and order of the wires -/

/-- The patterns keep the order of the numbers. -/
theorem uint_i2f_mono {v w : Word} (hv : normalised v) (hw : normalised w) (hle : uint v ≤ uint w) :
    uint (i2f v) ≤ uint (i2f w) := by
  obtain ⟨hv', -⟩ := uint_range_of_normalised hv
  obtain ⟨-, hw'⟩ := uint_range_of_normalised hw
  rw [uint_i2f hv, uint_i2f hw]
  by_cases hbv : 2 ^ 30 ≤ uint v
  · have hbw := hbv.trans hle
    rw [topBit_upper hbv, topBit_upper hbw, roundSignificand_upper hbv, roundSignificand_upper hbw]
    split <;> split <;> omega
  · rw [not_le] at hbv
    by_cases hbw : 2 ^ 30 ≤ uint w
    · have := (roundSignificand_range hv' (hle.trans_lt hw')).2
      have := (roundSignificand_range (hv'.trans hle) hw').1
      rw [topBit_lower hbv, topBit_upper hbw]
      omega
    · rw [not_le] at hbw
      rw [topBit_lower hbv, topBit_lower hbw, roundSignificand_lower hbv, roundSignificand_lower hbw]
      split <;> split <;> omega

/-- The transformed patterns are those of the real numbers 0.966 to 1.932 (R61(b)). -/
theorem uint_magic_i2f_range {v : Word} (h : normalised v) :
    0x3F7759DF ≤ uint (magic (i2f v)) ∧ uint (magic (i2f v)) ≤ 0x3FF759DF := by
  have hrange := uint_i2f_range h
  have hsum := uint_magic_add_half (getLsbD_31_i2f h)
  omega

/-- The transformed pattern is in the domain of `f2q`. -/
theorem f2qDomain_magic_i2f {v : Word} (h : normalised v) : f2qDomain (magic (i2f v)) := by
  have hrange := uint_magic_i2f_range h
  refine ⟨getLsbD_31_magic (getLsbD_31_i2f h), ?_, ?_⟩ <;> rw [expField_eq] <;> omega

/-- The seed is linear in the transformed pattern on each of the two exponents that occur. -/
theorem uint_seedOf {v : Word} (h : normalised v) :
    (uint (magic (i2f v)) < 127 * 2 ^ 23 ∧ uint (seedOf v) = (uint (magic (i2f v)) - 125 * 2 ^ 23) * 64) ∨
      (127 * 2 ^ 23 ≤ uint (magic (i2f v)) ∧ uint (seedOf v) = (uint (magic (i2f v)) - 126 * 2 ^ 23) * 128) := by
  have hrange := uint_magic_i2f_range h
  rw [seedOf, uint_f2q (f2qDomain_magic_i2f h), expField_eq, fracField_eq]
  rcases lt_or_ge (uint (magic (i2f v))) (127 * 2 ^ 23) with hlt | hge
  · have hexp : uint (magic (i2f v)) / 2 ^ 23 % 2 ^ 8 = 126 := by omega
    rw [hexp]
    omega
  · have hexp : uint (magic (i2f v)) / 2 ^ 23 % 2 ^ 8 = 127 := by omega
    rw [hexp]
    omega

/-- The seed reads the same signed and unsigned. -/
theorem sint_seedOf {v : Word} (h : normalised v) : sint (seedOf v) = uint (seedOf v) :=
  sint_eq_uint_of_lt (uint_f2q_lt (f2qDomain_magic_i2f h))

/-- Settles O21: the ranges of the wires one after the other; the order is kept by `i2f`, turned by `magic` and kept by
`f2q`; the extremes, evaluated. -/
theorem seedRangeAndOrder : Obligations.SeedRangeAndOrder := by
  refine ⟨fun v h => ?_, fun v w hv hw hle => ?_, by decide, by decide⟩
  · obtain ⟨hlo, hhi⟩ := uint_i2f_range h
    obtain ⟨hlo', hhi'⟩ := uint_magic_i2f_range h
    have hseed := uint_seedOf h
    rw [sint_seedOf h]
    exact ⟨hlo, hhi, hlo', hhi', by omega, by omega, by omega⟩
  · rw [sint_of_normalised hv, sint_of_normalised hw] at hle
    have hmono := uint_i2f_mono hv hw (by omega)
    have hsum := uint_magic_add_half (getLsbD_31_i2f hv)
    have hsum' := uint_magic_add_half (getLsbD_31_i2f hw)
    have hseed := uint_seedOf hv
    have hseed' := uint_seedOf hw
    rw [sint_seedOf hv, sint_seedOf hw]
    omega

/-! ## The wires over unbounded integers -/

/-- The pattern over unbounded integers. -/
theorem uint_i2f_eq_intB {v : Word} (h : normalised v) : (uint (i2f v) : Int) = intB (sint v) := by
  have hsame := sint_of_normalised h
  rw [uint_i2f h, intB, hsame]
  by_cases hupper : 2 ^ 30 ≤ uint v
  · rw [topBit_upper hupper, roundSignificand_upper hupper, if_pos (by omega : (2 : Int) ^ 30 ≤ uint v)]
    norm_num
    split <;> split <;> omega
  · rw [not_le] at hupper
    rw [topBit_lower hupper, roundSignificand_lower hupper, if_neg (by omega : ¬ (2 : Int) ^ 30 ≤ uint v)]
    norm_num
    split <;> split <;> omega

/-- The transformed pattern over unbounded integers. -/
theorem uint_magic_i2f_eq_intBp {v : Word} (h : normalised v) :
    (uint (magic (i2f v)) : Int) = intBp (sint v) := by
  have hsum := uint_magic_add_half (getLsbD_31_i2f h)
  have hb := uint_i2f_eq_intB h
  rw [intBp]
  omega

/-- The seed over unbounded integers. -/
theorem sint_seedOf_eq_intSeed {v : Word} (h : normalised v) : sint (seedOf v) = intSeed (sint v) := by
  have hrange := uint_magic_i2f_range h
  have hvalue := uint_f2q (f2qDomain_magic_i2f h)
  rw [expField_eq, fracField_eq] at hvalue
  have hexp : (intBp (sint v) / 2 ^ 23 - 120).toNat = uint (magic (i2f v)) / 2 ^ 23 % 2 ^ 8 - 120 := by
    rw [← uint_magic_i2f_eq_intBp h]
    omega
  rw [sint_seedOf h, seedOf, hvalue, intSeed, hexp, ← uint_magic_i2f_eq_intBp h]
  push_cast
  rfl

end Sys2Proof.Machine
end

section
/-! The accuracy of the estimates. The quality `N v^2 / 2^91` of an estimate `v` is 1 where `v` is the exact inverse root
of the normalised number `N`. An exact update squares the distance from 1 and never passes it; the update on integers
(spec/43_newton_raphson.md R62) is the exact one within a few units. -/

namespace Sys2Proof.Machine

/-! ## The exact update -/

/-- How good the estimate `v` of the inverse root of `N` is: 1 where it is exact. -/
def quality (N v : ℚ) : ℚ := N * v ^ 2 / 2 ^ 91

/-- The update of R62 without any rounding. -/
def exactUpdate (N v : ℚ) : ℚ := v * (3 - quality N v) / 2

/-- The exact update squares the distance of the quality from 1. -/
theorem one_sub_quality_exactUpdate (N v : ℚ) :
    1 - quality N (exactUpdate N v) = (1 - quality N v) ^ 2 * (4 - quality N v) / 4 := by
  simp only [exactUpdate, quality]
  ring

/-- The exact update never passes the inverse root. -/
theorem quality_exactUpdate_le_one {N v : ℚ} (h : quality N v ≤ 4) : quality N (exactUpdate N v) ≤ 1 := by
  have hprod : 0 ≤ (1 - quality N v) ^ 2 * (4 - quality N v) := mul_nonneg (sq_nonneg _) (by linarith)
  linarith [one_sub_quality_exactUpdate N v]

/-! ## The update on integers -/

/-- The floor of a quotient by 2^31. -/
theorem ediv_two_pow_bounds (a : Int) :
    (a : ℚ) / 2 ^ 31 - 1 < ((a / 2 ^ 31 : Int) : ℚ) ∧ ((a / 2 ^ 31 : Int) : ℚ) ≤ a / 2 ^ 31 := by
  have hlo : (a : ℚ) < (a / 2 ^ 31 : Int) * 2 ^ 31 + 2 ^ 31 := by
    exact_mod_cast (by omega : a < a / 2 ^ 31 * 2 ^ 31 + 2 ^ 31)
  have hhi : ((a / 2 ^ 31 : Int) : ℚ) * 2 ^ 31 ≤ a := by exact_mod_cast (by omega : a / 2 ^ 31 * 2 ^ 31 ≤ a)
  constructor <;> linarith

/-- A positive estimate that fits a signed word, and a number in the range of the normalised ones (R54, R66). -/
structure UpdateRange (N v : Int) : Prop where
  /-- The estimate is positive. -/
  v_pos : 0 < v
  /-- The estimate fits a signed word. -/
  v_lt : v < 2 ^ 31
  /-- The number is normalised from below. -/
  N_ge : 2 ^ 29 ≤ N
  /-- The number is normalised from above. -/
  N_lt : N < 2 ^ 31

section Update
variable {N v : Int} (h : UpdateRange N v)
include h

/-- `t2` is the quality at Q28, within two units below. -/
theorem intT2_bounds :
    quality N v * 2 ^ 28 - 2 < intT2 v (N / 2) ∧ (intT2 v (N / 2) : ℚ) ≤ quality N v * 2 ^ 28 := by
  obtain ⟨hv, hv', hN, hN'⟩ := h
  have hvq : (0 : ℚ) < v := by exact_mod_cast hv
  have hvq' : (v : ℚ) < 2 ^ 31 := by exact_mod_cast hv'
  have hlo : (N : ℚ) / 2 - 1 / 2 ≤ (N / 2 : Int) := by
    have : (N : ℚ) ≤ 2 * (N / 2 : Int) + 1 := by exact_mod_cast (by omega : N ≤ 2 * (N / 2) + 1)
    linarith
  have hhi : ((N / 2 : Int) : ℚ) ≤ N / 2 := by
    have : (2 : ℚ) * (N / 2 : Int) ≤ N := by exact_mod_cast (by omega : 2 * (N / 2) ≤ N)
    linarith
  have hpos : (0 : ℚ) < (N / 2 : Int) := by exact_mod_cast (by omega : 0 < N / 2)
  have hsmall : ((N / 2 : Int) : ℚ) < 2 ^ 30 := by exact_mod_cast (by omega : N / 2 < 2 ^ 30)
  obtain ⟨ht1, ht1'⟩ := ediv_two_pow_bounds (v * v)
  obtain ⟨ht2, ht2'⟩ := ediv_two_pow_bounds (intT1 v * (N / 2))
  rw [← intT1] at ht1 ht1'
  rw [← intT2] at ht2 ht2'
  push_cast at ht1 ht1' ht2 ht2' hlo hhi hpos hsmall
  generalize (intT1 v : ℚ) = t1 at *
  generalize (intT2 v (N / 2) : ℚ) = t2 at *
  generalize ((N / 2 : Int) : ℚ) = hf at *
  set a : ℚ := (v : ℚ) * v / 2 ^ 31 with ha
  have ha' : a < 2 ^ 31 := by
    rw [ha, div_lt_iff₀ (by norm_num)]
    nlinarith
  have hq : quality N v * 2 ^ 28 = a * (N / 2) / 2 ^ 31 := by
    rw [quality, ha]
    ring
  have ha0 : 0 < a := by positivity
  rw [hq]
  constructor
  · have : a * (N / 2) - t1 * hf < 2 ^ 31 := by nlinarith
    linarith
  · have : t1 * hf ≤ a * (N / 2) := by nlinarith
    linarith

/-- The update on integers is the exact one, less than 4 below and less than 8 above. -/
theorem intNr_bounds :
    exactUpdate N v - 4 < intNr v (N / 2) ∧ (intNr v (N / 2) : ℚ) < exactUpdate N v + 8 := by
  have hv : (0 : ℚ) < v := by exact_mod_cast h.v_pos
  have hv' : (v : ℚ) < 2 ^ 31 := by exact_mod_cast h.v_lt
  obtain ⟨ht2, ht2'⟩ := intT2_bounds h
  have ht3 : (intT3 v (N / 2) : ℚ) = 3 * 2 ^ 28 - intT2 v (N / 2) := by
    rw [intT3]
    push_cast
    ring
  obtain ⟨ht4, ht4'⟩ := ediv_two_pow_bounds (v * intT3 v (N / 2))
  rw [← intT4] at ht4 ht4'
  have hnr : (intNr v (N / 2) : ℚ) = 4 * intT4 v (N / 2) := by
    rw [intNr]
    push_cast
    ring
  push_cast at ht4 ht4'
  rw [ht3] at ht4 ht4'
  rw [hnr, exactUpdate]
  constructor <;> nlinarith

end Update

/-! ## Close estimates -/

/-- An estimate whose quality is within 7 percent of 1. -/
structure CloseEstimate (N v : Int) : Prop extends UpdateRange N v where
  /-- The quality is at least 0.93. -/
  quality_ge : 93 / 100 ≤ quality N v
  /-- The quality is at most 1.07. -/
  quality_le : quality N v ≤ 107 / 100

section Update
variable {N v : Int} (h : CloseEstimate N v)
include h

/-- A close estimate is above 2^29, for the number is below 2^31. -/
theorem CloseEstimate.lt_v : (2 : ℚ) ^ 29 < v := by
  have hN : (N : ℚ) < 2 ^ 31 := by exact_mod_cast h.N_lt
  have hv : (0 : ℚ) < v := by exact_mod_cast h.v_pos
  have hq := h.quality_ge
  rw [quality, le_div_iff₀ (by positivity)] at hq
  by_contra hle
  rw [not_lt] at hle
  nlinarith [mul_le_mul hle hle hv.le (by positivity)]

/-- The exact update of a close estimate is of the estimate's size, within a factor of two. -/
theorem CloseEstimate.exactUpdate_range : (2 : ℚ) ^ 28 < exactUpdate N v ∧ exactUpdate N v < 2 ^ 32 := by
  have hv := h.lt_v
  have hv' : (v : ℚ) < 2 ^ 31 := by exact_mod_cast h.v_lt
  have hlo := h.quality_ge
  have hhi := h.quality_le
  rw [exactUpdate]
  constructor <;> nlinarith

/-- The update on integers squares the distance of the quality from 1, within 2^-23. -/
theorem CloseEstimate.quality_intNr :
    |1 - quality N (intNr v (N / 2))| ≤ (1 - quality N v) ^ 2 + 1 / 2 ^ 23 := by
  obtain ⟨hlo, hhi⟩ := intNr_bounds h.toUpdateRange
  obtain ⟨hw, hw'⟩ := h.exactUpdate_range
  have hN : (0 : ℚ) < N := by exact_mod_cast (by have := h.N_ge; omega : 0 < N)
  have hN' : (N : ℚ) < 2 ^ 31 := by exact_mod_cast h.N_lt
  have hexact := one_sub_quality_exactUpdate N v
  have hq := h.quality_ge
  have hq' := h.quality_le
  have hsquare : 0 ≤ (1 - quality N v) ^ 2 := sq_nonneg _
  generalize (intNr v (N / 2) : ℚ) = u at *
  generalize exactUpdate N v = w at *
  have hsum : |u + w| ≤ 2 ^ 34 := abs_le.2 ⟨by linarith, by linarith⟩
  have hdist : |u - w| ≤ 8 := abs_le.2 ⟨by linarith, by linarith⟩
  have hdiff : |quality N u - quality N w| ≤ 1 / 2 ^ 23 :=
    calc |quality N u - quality N w| = N * (|u - w| * |u + w|) / 2 ^ 91 := by
          rw [show quality N u - quality N w = N * ((u - w) * (u + w)) / 2 ^ 91 by rw [quality, quality]; ring,
            abs_div, abs_mul, abs_mul, abs_of_pos hN, abs_of_pos (by positivity : (0 : ℚ) < 2 ^ 91)]
      _ ≤ 2 ^ 31 * (8 * 2 ^ 34) / 2 ^ 91 := by gcongr
      _ = 1 / 2 ^ 23 := by norm_num
  have hshrunk : |1 - quality N w| ≤ (1 - quality N v) ^ 2 := by
    rw [hexact]
    refine abs_le.2 ⟨?_, ?_⟩ <;> nlinarith
  calc |1 - quality N u| = |(1 - quality N w) - (quality N u - quality N w)| := by ring_nf
    _ ≤ |1 - quality N w| + |quality N u - quality N w| := abs_sub _ _
    _ ≤ (1 - quality N v) ^ 2 + 1 / 2 ^ 23 := add_le_add hshrunk hdiff

/-- Where the number is not one of the least five, the update fits a signed word: it would pass the inverse root, which
the exact update does not. -/
theorem CloseEstimate.intNr_lt (hN : 2 ^ 29 + 5 ≤ N) : intNr v (N / 2) < 2 ^ 31 := by
  have hN' : (2 : ℚ) ^ 29 + 5 ≤ N := by exact_mod_cast hN
  obtain ⟨-, hhi⟩ := intNr_bounds h.toUpdateRange
  have hbest := quality_exactUpdate_le_one (h.quality_le.trans (by norm_num))
  generalize exactUpdate N v = w at *
  rw [quality, div_le_one₀ (by positivity)] at hbest
  by_contra hge
  have hge' : (2 : ℚ) ^ 31 ≤ intNr v (N / 2) := by exact_mod_cast not_lt.1 hge
  have hw : ((2 : ℚ) ^ 31 - 8) ^ 2 < w ^ 2 := pow_lt_pow_left₀ (by linarith) (by norm_num) (by decide)
  nlinarith

/-- Where the number is not one of the greatest 32, its product with the update is below 2^61. -/
theorem CloseEstimate.mul_intNr_lt (hN : N ≤ 2 ^ 31 - 33) : N * intNr v (N / 2) < 2 ^ 61 := by
  have hN' : (N : ℚ) ≤ 2 ^ 31 - 33 := by exact_mod_cast hN
  have hpos : (0 : ℚ) < N := by exact_mod_cast (by have := h.N_ge; omega : 0 < N)
  obtain ⟨-, hhi⟩ := intNr_bounds h.toUpdateRange
  have hbest := quality_exactUpdate_le_one (h.quality_le.trans (by norm_num))
  generalize exactUpdate N v = w at *
  rw [quality, div_le_one₀ (by positivity)] at hbest
  by_contra hge
  have hge' : (2 : ℚ) ^ 61 ≤ N * intNr v (N / 2) := by exact_mod_cast not_lt.1 hge
  have hroot : (2 : ℚ) ^ 61 - 8 * N ≤ N * w := by nlinarith
  have hsquare : ((2 : ℚ) ^ 61 - 8 * N) ^ 2 ≤ 2 ^ 91 * N :=
    calc ((2 : ℚ) ^ 61 - 8 * N) ^ 2 ≤ (N * w) ^ 2 := pow_le_pow_left₀ (by linarith) hroot 2
      _ = N * (N * w ^ 2) := by ring
      _ ≤ N * 2 ^ 91 := mul_le_mul_of_nonneg_left hbest hpos.le
      _ = 2 ^ 91 * N := mul_comm _ _
  nlinarith

/-- An update that fits a signed word is again a close estimate. -/
theorem CloseEstimate.update (hlt : intNr v (N / 2) < 2 ^ 31) : CloseEstimate N (intNr v (N / 2)) := by
  have hq := h.quality_ge
  have hq' := h.quality_le
  obtain ⟨hlo, hhi⟩ := abs_le.1 (h.quality_intNr)
  obtain ⟨hnr, -⟩ := intNr_bounds h.toUpdateRange
  obtain ⟨hw, -⟩ := h.exactUpdate_range
  have hpos : (0 : ℚ) < intNr v (N / 2) := by linarith
  have hsquare : (1 - quality N v) ^ 2 ≤ 49 / 10000 := by nlinarith
  exact { v_pos := by exact_mod_cast hpos, v_lt := hlt, N_ge := h.N_ge, N_lt := h.N_lt,
          quality_ge := by linarith, quality_le := by linarith }

end Update

/-! ## The seed -/

/-- A cubic `x (a - b x)^2` is largest where `a = 3 b x`. -/
theorem cubic_le {a b x : ℚ} (hb : 0 < b) (h : 3 * b * x ≤ 4 * a) : x * (a - b * x) ^ 2 ≤ 4 * a ^ 3 / (27 * b) := by
  have hgap : 0 ≤ (a - 3 * b * x) ^ 2 * (4 * a - 3 * b * x) := mul_nonneg (sq_nonneg _) (by linarith)
  rw [le_div_iff₀ (by positivity)]
  linarith

/-- Where it is concave, the cubic `x (a - b x)^2` is nowhere less than at both ends. -/
theorem le_cubic {a b lo hi x c : ℚ} (hb : 0 ≤ b) (hlo : lo ≤ x) (hhi : x ≤ hi) (hconcave : 3 * b * hi ≤ 2 * a)
    (hc : c ≤ lo * (a - b * lo) ^ 2) (hc' : c ≤ hi * (a - b * hi) ^ 2) : c ≤ x * (a - b * x) ^ 2 := by
  rcases hlo.eq_or_lt with rfl | hlt
  · exact hc
  have hchord : 0 ≤ (hi - lo) * ((x - lo) * (hi - x) * (b * (2 * a - b * (x + lo + hi)))) := by
    refine mul_nonneg (by linarith) (mul_nonneg (mul_nonneg (by linarith) (by linarith)) (mul_nonneg hb ?_))
    nlinarith
  have hends : 0 ≤ (hi - x) * (lo * (a - b * lo) ^ 2 - c) + (x - lo) * (hi * (a - b * hi) ^ 2 - c) :=
    add_nonneg (mul_nonneg (by linarith) (by linarith)) (mul_nonneg (by linarith) (by linarith))
  have hsum : 0 ≤ (hi - lo) * (x * (a - b * x) ^ 2 - c) := by linarith
  exact sub_nonneg.1 (nonneg_of_mul_nonneg_right hsum (by linarith))

/-- An estimate `y` between two parallel falling lines has `x y^2` between the bounds of their cubics. -/
theorem square_bounds_of_lines {a a' b lo hi x y : ℚ} (hx : lo ≤ x ∧ x ≤ hi) (hy : a - b * x ≤ y ∧ y ≤ a' - b * x)
    (hb : 0 < b) (hlo : 0 ≤ lo) (hconcave : 3 * b * hi ≤ 2 * a) (hc : 93 / 100 ≤ lo * (a - b * lo) ^ 2)
    (hc' : 93 / 100 ≤ hi * (a - b * hi) ^ 2) (hd : 4 * a' ^ 3 / (27 * b) ≤ 107 / 100) :
    93 / 100 ≤ x * y ^ 2 ∧ x * y ^ 2 ≤ 107 / 100 := by
  obtain ⟨hx, hx'⟩ := hx
  obtain ⟨hy, hy'⟩ := hy
  have hbx : b * x ≤ b * hi := mul_le_mul_of_nonneg_left hx' hb.le
  have hbhi : 0 ≤ b * hi := mul_nonneg hb.le (by linarith)
  have hpos : 0 ≤ a - b * x := by linarith
  constructor
  · calc 93 / 100 ≤ x * (a - b * x) ^ 2 := le_cubic hb.le hx hx' hconcave hc hc'
      _ ≤ x * y ^ 2 := mul_le_mul_of_nonneg_left (pow_le_pow_left₀ hpos hy 2) (by linarith)
  · calc x * y ^ 2 ≤ x * (a' - b * x) ^ 2 :=
          mul_le_mul_of_nonneg_left (pow_le_pow_left₀ (by linarith) hy' 2) (by linarith)
      _ ≤ 4 * a' ^ 3 / (27 * b) := cubic_le hb (by linarith)
      _ ≤ 107 / 100 := hd

/-- The seed falls along three lines, within the rounding of `i2f` and the halving of `magic`: of slope -1 in the lower
binade, -1/2 in the upper one, and -1/4 where the exponent of the transformed pattern is one less. -/
theorem uint_seedOf_lines {v : Word} (h : normalised v) :
    (uint v < 2 ^ 30 ∧ 2611801952 ≤ uint (seedOf v) + uint v ∧ uint (seedOf v) + uint v ≤ 2611802080) ∨
    (2 ^ 30 ≤ uint v ∧ uint v ≤ 2002378692 ∧ 4149862080 ≤ 2 * uint (seedOf v) + uint v
      ∧ 2 * uint (seedOf v) + uint v ≤ 4149862336) ∨
    (2002378400 ≤ uint v ∧ 6297345728 ≤ 4 * uint (seedOf v) + uint v
      ∧ 4 * uint (seedOf v) + uint v ≤ 6297345984) := by
  have hpattern := uint_i2f h
  have hsum := uint_magic_add_half (getLsbD_31_i2f h)
  have hseed := uint_seedOf h
  obtain ⟨hlo, hhi⟩ := uint_range_of_normalised h
  by_cases hupper : 2 ^ 30 ≤ uint v
  · obtain ⟨hup, hdown, -⟩ := roundSignificand_nearest (if_pos hupper).symm
    rw [topBit_upper hupper] at hpattern
    rcases hseed with ⟨hexp, hseed⟩ | ⟨hexp, hseed⟩
    · exact .inr (.inr (by omega))
    · exact .inr (.inl (by omega))
  · rw [not_le] at hupper
    obtain ⟨hup, hdown, -⟩ := roundSignificand_nearest (if_neg (not_le.2 hupper)).symm
    rw [topBit_lower hupper] at hpattern
    have := (roundSignificand_range hlo hhi).2
    exact .inl (by omega)

/-- The quality of every seed is within 7 percent of 1: the cubics of the three lines, at their ends and at their
top. -/
theorem quality_seedOf {v : Word} (h : normalised v) :
    93 / 100 ≤ quality (uint v) (uint (seedOf v)) ∧ quality (uint v) (uint (seedOf v)) ≤ 107 / 100 := by
  obtain ⟨hlo, hhi⟩ := uint_range_of_normalised h
  have hscale : quality (uint v) (uint (seedOf v)) = (uint v / 2 ^ 31 : ℚ) * (uint (seedOf v) / 2 ^ 30 : ℚ) ^ 2 := by
    rw [quality]
    ring
  rw [hscale]
  have hlines := uint_seedOf_lines h
  generalize uint (seedOf v) = s at *
  generalize uint v = n at *
  qify at hlo hhi hlines
  rcases hlines with ⟨hn, hs, hs'⟩ | ⟨hn, hn', hs, hs'⟩ | ⟨hn, hs, hs'⟩
  · refine square_bounds_of_lines (a := 24324 / 10000) (a' := 24325 / 10000) (b := 2) (lo := 1 / 4) (hi := 1 / 2)
      ⟨by linarith, by linarith⟩ ⟨by linarith, by linarith⟩ ?_ ?_ ?_ ?_ ?_ ?_ <;> norm_num
  · refine square_bounds_of_lines (a := 19324 / 10000) (a' := 19325 / 10000) (b := 1) (lo := 1 / 2) (hi := 9325 / 10000)
      ⟨by linarith, by linarith⟩ ⟨by linarith, by linarith⟩ ?_ ?_ ?_ ?_ ?_ ?_ <;> norm_num
  · refine square_bounds_of_lines (a := 14662 / 10000) (a' := 14663 / 10000) (b := 1 / 2) (lo := 9324 / 10000) (hi := 1)
      ⟨by linarith, by linarith⟩ ⟨by linarith, by linarith⟩ ?_ ?_ ?_ ?_ ?_ ?_ <;> norm_num

/-- The seed over unbounded integers is a close estimate. -/
theorem closeEstimate_intSeed {N : Int} (hlo : 2 ^ 29 ≤ N) (hhi : N < 2 ^ 31) : CloseEstimate N (intSeed N) := by
  obtain ⟨v, rfl⟩ : ∃ v : Word, sint v = N := ⟨wrap 32 N, sint_wrap_of_fits (by decide) (by omega) (by omega)⟩
  have h : normalised v := ⟨hlo, hhi⟩
  obtain ⟨hq, hq'⟩ := quality_seedOf h
  obtain ⟨-, -, -, -, hmin, -⟩ := seedRangeAndOrder.1 v h
  have hlt := (sint_range (seedOf v)).2
  rw [← sint_seedOf_eq_intSeed h]
  have hsame : (sint v : ℚ) = uint v := by exact_mod_cast sint_of_normalised h
  have hsame' : (sint (seedOf v) : ℚ) = uint (seedOf v) := by exact_mod_cast sint_seedOf h
  exact { v_pos := by omega, v_lt := hlt, N_ge := hlo, N_lt := hhi,
          quality_ge := by rwa [hsame, hsame'], quality_le := by rwa [hsame, hsame'] }

/-! ## The estimates of an operation -/

/-- The estimates of R73 for the normalised number `N`, over unbounded integers: the seed and its updates. -/
def estimate (N : Int) : Nat → Int
  | 0 => intSeed N
  | i + 1 => intNr (estimate N i) (N / 2)

/-- At the least five normalised numbers, whose inverse root is at the end of a signed word, the estimates fit it. -/
theorem estimate_lt_of_least : ∀ d < 5, ∀ i < 4, estimate (2 ^ 29 + (d : Nat)) i < 2 ^ 31 := by decide

/-- At the greatest 32 normalised numbers, whose root is at the end of a signed word, the product fits it. -/
theorem mul_estimate_lt_of_greatest :
    ∀ d < 32, (2 ^ 31 - 1 - (d : Nat)) * estimate (2 ^ 31 - 1 - (d : Nat)) 3 < 2 ^ 61 := by decide

section Estimates
variable {N : Int} (hlo : 2 ^ 29 ≤ N) (hhi : N < 2 ^ 31)
include hlo hhi

/-- The four estimates of an operation are close. -/
theorem closeEstimate_estimate {i : Nat} (hi : i ≤ 3) : CloseEstimate N (estimate N i) := by
  induction i with
  | zero => exact closeEstimate_intSeed hlo hhi
  | succ i ih =>
    have h := ih (by omega)
    refine h.update ?_
    rcases lt_or_ge N (2 ^ 29 + 5) with hleast | hgreater
    · obtain ⟨d, rfl⟩ : ∃ d : Nat, N = 2 ^ 29 + d := ⟨(N - 2 ^ 29).toNat, by omega⟩
      exact estimate_lt_of_least d (by omega) (i + 1) (by omega)
    · exact h.intNr_lt hgreater

/-- The reconstruction product of an operation is below 2^61. -/
theorem mul_estimate_lt : N * estimate N 3 < 2 ^ 61 := by
  rcases lt_or_ge (2 ^ 31 - 33) N with hgreatest | hless
  · obtain ⟨d, rfl⟩ : ∃ d : Nat, N = 2 ^ 31 - 1 - d := ⟨(2 ^ 31 - 1 - N).toNat, by omega⟩
    exact mul_estimate_lt_of_greatest d (by omega)
  · exact (closeEstimate_estimate hlo hhi (by decide : 2 ≤ 3)).mul_intNr_lt hless

/-- Three updates bring the quality within a millionth of 1: each squares the distance. -/
theorem quality_last_estimate : |1 - quality N (estimate N 3)| ≤ 1 / 10 ^ 6 := by
  have hclose {i : Nat} := closeEstimate_estimate (i := i) hlo hhi
  have hstep {i : Nat} {e : ℚ} (hi : i ≤ 2) (he : |1 - quality N (estimate N i)| ≤ e) :
      |1 - quality N (estimate N (i + 1))| ≤ e ^ 2 + 1 / 2 ^ 23 :=
    (hclose (by omega)).quality_intNr.trans (by linarith [sq_le_sq.2 (he.trans (le_abs_self e))])
  have hseed := hclose (i := 0) (by decide)
  have h0 : |1 - quality N (estimate N 0)| ≤ 7 / 100 :=
    abs_le.2 ⟨by linarith [hseed.quality_le], by linarith [hseed.quality_ge]⟩
  have h1 : |1 - quality N (estimate N 1)| ≤ 1 / 200 := (hstep (by decide) h0).trans (by norm_num)
  have h2 : |1 - quality N (estimate N 2)| ≤ 1 / 20000 := (hstep (by decide) h1).trans (by norm_num)
  exact (hstep (by decide) h2).trans (by norm_num)

end Estimates

end Sys2Proof.Machine
end

section
/-! The datapath of an operation on words (spec/45_end_to_end.md R76 to R78): no value wraps, so each is its value over
unbounded integers; the bounds and the accuracy of the result follow from those of the last estimate. -/

namespace Sys2Proof.Machine

/-! ## Words that hold their unbounded values -/

/-- A left shift of a word that is not negative multiplies where the result fits. -/
theorem sint_shl_of_fits {v : Word} {k : Nat} (hpos : 0 ≤ sint v) (hlt : sint v * 2 ^ k < 2 ^ 31) :
    sint (shl v k) = sint v * 2 ^ k := by
  have hmsb : v.msb = false := by
    rw [BitVec.msb_eq_toInt]
    exact decide_eq_false (not_lt.2 hpos)
  have hsame : sint v = uint v := BitVec.toInt_eq_toNat_of_msb hmsb
  rw [hsame] at hlt ⊢
  have hlt' : uint v * 2 ^ k < 2 ^ 31 := by exact_mod_cast hlt
  have hshl := uint_shl_of_fits (v := v) (hlt'.trans (by decide))
  rw [sint_eq_uint_of_lt (hshl ▸ hlt'), hshl]
  push_cast
  rfl

/-- The multiplier's step of two positive factors is exact: the product of two words is below 2^62. -/
theorem sint_mulShift31_of_lt {a b : Word} {m n : Int} (ha : sint a = m) (hb : sint b = n)
    (hpos : 0 < m * n / 2 ^ 31) (hlt : m * n < 2 ^ 62) :
    productFits a b ∧ 0 < sint (mulShift31 a b) ∧ sint (mulShift31 a b) = m * n / 2 ^ 31 := by
  subst ha hb
  have hstep : sint (mulShift31 a b) = sint a * sint b / 2 ^ 31 :=
    sint_mulShift31_of_fits (by omega) (by omega)
  rw [productFits, sint_mul64, hstep]
  omega

/-- The wires of an update of a close estimate, over unbounded integers. -/
theorem CloseEstimate.wires {N v : Int} (h : CloseEstimate N v) :
    2 ^ 27 ≤ intT1 v ∧ (0 < intT2 v (N / 2) ∧ intT2 v (N / 2) < 2 ^ 29)
      ∧ (2 ^ 28 < intT3 v (N / 2) ∧ intT3 v (N / 2) < 2 ^ 30) ∧ 0 < intT4 v (N / 2) := by
  have hv : (2 : Int) ^ 29 < v := by exact_mod_cast h.lt_v
  obtain ⟨ht2, ht2'⟩ := intT2_bounds h.toUpdateRange
  have hq := h.quality_ge
  have hq' := h.quality_le
  have hpos : 0 < intT2 v (N / 2) := by
    have : (0 : ℚ) < intT2 v (N / 2) := by linarith
    exact_mod_cast this
  have hlt : intT2 v (N / 2) < 2 ^ 29 := by
    have : (intT2 v (N / 2) : ℚ) < 2 ^ 29 := by linarith
    exact_mod_cast this
  have ht3 : 2 ^ 28 < intT3 v (N / 2) ∧ intT3 v (N / 2) < 2 ^ 30 := by
    rw [intT3]
    omega
  have hsquare : 2 ^ 58 ≤ v * v := by nlinarith
  have hproduct : 2 ^ 57 ≤ v * intT3 v (N / 2) := by nlinarith
  refine ⟨?_, ⟨hpos, hlt⟩, ht3, ?_⟩
  · rw [intT1]
    omega
  · rw [intT4]
    omega

/-- Nothing wraps in an update of a close estimate whose result fits a signed word. -/
theorem CloseEstimate.updateExact {v hf : Word} {N : Int} (h : CloseEstimate N (sint v)) (hhf : sint hf = N / 2)
    (hlt : intNr (sint v) (N / 2) < 2 ^ 31) : UpdateExact v hf := by
  have hv := h.v_pos
  have hv' := h.v_lt
  have hhf' : 0 < sint hf ∧ sint hf < 2 ^ 30 := by
    have := h.N_ge
    have := h.N_lt
    omega
  obtain ⟨ht1, ⟨ht2, -⟩, ⟨ht3, ht3'⟩, ht4⟩ := h.wires
  rw [← hhf] at *
  have ht1' : intT1 (sint v) < 2 ^ 31 := by
    rw [intT1]
    have : sint v * sint v < 2 ^ 62 := by nlinarith
    omega
  obtain ⟨p1, w1, e1⟩ := sint_mulShift31_of_lt (a := v) (b := v) rfl rfl
    (show 0 < intT1 (sint v) by omega) (by nlinarith)
  obtain ⟨p2, w2, e2⟩ := sint_mulShift31_of_lt (a := nrT1 v) (b := hf) e1 rfl ht2
    (show intT1 (sint v) * sint hf < 2 ^ 62 by nlinarith)
  have e3 : sint (nrT3 v hf) = intT3 (sint v) (sint hf) := by
    have hc : sint newtonC = 805306368 := by decide
    have e2' : sint (nrT2 v hf) = intT2 (sint v) (sint hf) := e2
    have hdiff : sint newtonC - sint (nrT2 v hf) = intT3 (sint v) (sint hf) := by rw [hc, e2', intT3]
    rw [nrT3, sint_sub32_of_fits (by omega) (by omega), hdiff]
  obtain ⟨p3, w4, e4⟩ := sint_mulShift31_of_lt (a := v) (b := nrT3 v hf) rfl e3 ht4
    (show sint v * intT3 (sint v) (sint hf) < 2 ^ 62 by nlinarith)
  have e5 : sint (nr v hf) = intNr (sint v) (sint hf) := by
    have e4' : sint (nrT4 v hf) = intT4 (sint v) (sint hf) := e4
    rw [intNr] at hlt
    have hfits : sint (nrT4 v hf) * 2 ^ 2 < 2 ^ 31 := by omega
    rw [nr, sint_shl_of_fits (by omega) hfits, e4', intNr]
    ring
  exact { p1 := p1, t1 := ⟨w1, e1⟩, p2 := p2, t2 := ⟨w2, e2⟩, t3 := ⟨by omega, e3⟩, p3 := p3, t4 := ⟨w4, e4⟩,
          result := ⟨by rw [e5, intNr]; omega, e5⟩ }

/-! ## The datapath of a legal operand -/

/-- The estimates of R73 on words: the seed and its updates. -/
def opEstimate (w : Word) : Nat → Word
  | 0 => opV0 w
  | i + 1 => nr (opEstimate w i) (opHalf w)

section Legal
variable {w : Word} (h : legalOperand w)
include h

/-- The normalised number of a legal operand over unbounded integers is in [2^29, 2^31). -/
theorem intNum_range : 2 ^ 29 ≤ intNum (uint w) ∧ intNum (uint w) < 2 ^ 31 := by
  rw [← sint_opNum_eq_intNum h]
  exact normalised_opNum h

/-- The estimates of a legal operand are those over unbounded integers. -/
theorem sint_opEstimate {i : Nat} (hi : i ≤ 3) : sint (opEstimate w i) = estimate (intNum (uint w)) i := by
  obtain ⟨hlo, hhi⟩ := intNum_range h
  induction i with
  | zero =>
    rw [estimate, ← sint_opNum_eq_intNum h, ← sint_seedOf_eq_intSeed (normalised_opNum h)]
    rfl
  | succ i ih =>
    have hsame := ih (by omega)
    have hclose := closeEstimate_estimate hlo hhi (by omega : i ≤ 3)
    have hlt := (closeEstimate_estimate hlo hhi hi).v_lt
    rw [estimate, ← hsame] at hlt
    rw [← hsame] at hclose
    obtain ⟨-, hresult⟩ := (hclose.updateExact (sint_opHalf h) hlt).result
    rw [opEstimate, hresult, hsame, sint_opHalf h]
    rfl

/-- Nothing wraps in the three updates of a legal operand. -/
theorem updateExact_opEstimate {i : Nat} (hi : i ≤ 2) : UpdateExact (opEstimate w i) (opHalf w) := by
  obtain ⟨hlo, hhi⟩ := intNum_range h
  have hsame := sint_opEstimate h (by omega : i ≤ 3)
  have hclose := closeEstimate_estimate hlo hhi (by omega : i ≤ 3)
  have hlt := (closeEstimate_estimate hlo hhi (by omega : i + 1 ≤ 3)).v_lt
  rw [estimate, ← hsame] at hlt
  rw [← hsame] at hclose
  exact hclose.updateExact (sint_opHalf h) hlt

/-- The last estimate of a legal operand. -/
theorem sint_opV3 : sint (opV3 w) = intV3 (uint w) := sint_opEstimate h (i := 3) le_rfl

/-- The reconstruction product of a legal operand is positive and below 2^61. -/
theorem intNum_mul_intV3_range :
    2 ^ 58 ≤ intNum (uint w) * intV3 (uint w) ∧ intNum (uint w) * intV3 (uint w) < 2 ^ 61 := by
  obtain ⟨hlo, hhi⟩ := intNum_range h
  have hv : (2 : Int) ^ 29 < intV3 (uint w) := by exact_mod_cast (closeEstimate_estimate hlo hhi le_rfl).lt_v
  exact ⟨by nlinarith, mul_estimate_lt hlo hhi⟩

/-- The multiplier's step of RECON on a legal operand is exact. -/
theorem sint_recon_product :
    productFits (opNum w) (opV3 w) ∧ 0 < sint (mulShift31 (opNum w) (opV3 w))
      ∧ sint (mulShift31 (opNum w) (opV3 w)) = intNum (uint w) * intV3 (uint w) / 2 ^ 31 := by
  obtain ⟨hlo, hhi⟩ := intNum_mul_intV3_range h
  exact sint_mulShift31_of_lt (sint_opNum_eq_intNum h) (sint_opV3 h) (by omega) (by omega)

/-- The reconstructed root of a legal operand. -/
theorem sint_opRec : sint (opRec w) = intRec (uint w) := by
  obtain ⟨-, hpos, hproduct⟩ := sint_recon_product h
  obtain ⟨-, hhi⟩ := intNum_mul_intV3_range h
  have hfits : sint (mulShift31 (opNum w) (opV3 w)) * 2 ^ 1 < 2 ^ 31 := by omega
  rw [opRec, recon, sint_shl_of_fits hpos.le hfits, hproduct, intRec]
  ring

/-- The result of a legal operand. -/
theorem sint_opOut : sint (opOut w) = intSqrt (uint w) := by
  rw [opOut, sint_asr (by decide), sint_opRec h, opK_eq_intK h, intSqrt]

end Legal

/-- Settles O46: the estimates are close to the inverse root, so that no update and no product leaves a word. -/
theorem datapathEqualsUnboundedIntegers : Obligations.DatapathEqualsUnboundedIntegers := by
  rintro w n h rfl
  have hnum := sint_opNum_eq_intNum h
  have hnormal := normalised_opNum h
  have hestimate {i : Nat} := sint_opEstimate (i := i) h
  have hexact {i : Nat} := updateExact_opEstimate (i := i) h
  obtain ⟨hfits, -, hproduct⟩ := sint_recon_product h
  refine ⟨⟨opK_eq_intK h, hnum, sint_opHalf h⟩, ⟨?_, ?_⟩, ⟨?_, ?_, ?_, ?_⟩, ⟨?_, ?_, ?_⟩, hfits, hproduct,
    sint_opRec h, sint_opOut h⟩
  · rw [uint_i2f_eq_intB hnormal, hnum]
  · rw [uint_magic_i2f_eq_intBp hnormal, hnum]
  · exact hestimate (i := 0) (by decide)
  · exact hestimate (i := 1) (by decide)
  · exact hestimate (i := 2) (by decide)
  · exact hestimate (i := 3) (by decide)
  · exact hexact (i := 0) (by decide)
  · exact hexact (i := 1) (by decide)
  · exact hexact (i := 2) (by decide)

/-- Settles O47: close estimates are positive, an update ends with a shift by 2 and RECON with a shift by 1. -/
theorem estimatesStayPositive : Obligations.EstimatesStayPositive := by
  intro w h
  obtain ⟨-, -, ⟨h0, h1, h2, h3⟩, -, -, -, hrec, -⟩ := datapathEqualsUnboundedIntegers w _ h rfl
  obtain ⟨hlo, hhi⟩ := intNum_range h
  have hpos {i : Nat} (hi : i ≤ 3) := (closeEstimate_estimate hlo hhi hi).v_pos
  have hproduct := (intNum_mul_intV3_range h).1
  have hdouble : intRec (uint w) = 2 * (intNum (uint w) * intV3 (uint w) / 2 ^ 31) := rfl
  have hfour (v hf : Int) : intNr v hf % 4 = 0 := Int.mul_emod_right 4 _
  rw [h0, h1, h2, h3, hrec]
  exact ⟨hpos (i := 0) (by decide), hpos (i := 1) (by decide), hpos (i := 2) (by decide), hpos (i := 3) (by decide),
    by omega, hfour _ _, hfour _ _, hfour _ _, by omega⟩

end Sys2Proof.Machine
end

section
/-! The accuracy of the result (spec/45_end_to_end.md R77, R78): the root before its last shift is accurate to the
quality of the last estimate, the shift drops less than one unit, and that unit is small against the result of every operand
but the least seven, whose results are evaluated. -/

namespace Sys2Proof.Machine

/-- The results of the least seven operands. -/
theorem intSqrt_accurate_of_least : ∀ a < 8, 1 ≤ a →
    10000000 * |intSqrt a ^ 2 - a * 2 ^ 31| < 420 * ((a : Int) * 2 ^ 31) := by decide

/-- The result of the least operand. -/
theorem intSqrt_one : intSqrt 1 = 46340 := by decide

/-- A number `y` that is off a root `r` of about `A` by less than two units below and by nothing above has a square that
meets the document's test, where `r` is at least 131071. -/
theorem square_accurate {A r y : ℚ} (hroot : |A - r ^ 2| ≤ A / 10 ^ 6) (hr : 131071 ≤ r) (hy : r - 2 < y)
    (hy' : y ≤ r) : 10000000 * |y ^ 2 - A| < 420 * A := by
  obtain ⟨hlo, hhi⟩ := abs_le.1 hroot
  have hlarge : 131071 * r ≤ r ^ 2 := by nlinarith
  have hup : y ^ 2 ≤ r ^ 2 := pow_le_pow_left₀ (by linarith) hy' 2
  have hdown : r ^ 2 - 4 * r < y ^ 2 := by nlinarith
  have : |y ^ 2 - A| < 42 / 10 ^ 6 * A := abs_lt.2 ⟨by linarith, by linarith⟩
  linarith

/-- Below the exact value of the reconstructed root shifted right by `k`, the result is less than two units off. -/
theorem intSqrt_bounds (n : Nat) :
    (intNum n * intV3 n / 2 ^ 30 / 2 ^ intK n - 2 : ℚ) < intSqrt n
      ∧ (intSqrt n : ℚ) ≤ intNum n * intV3 n / 2 ^ 30 / 2 ^ intK n := by
  obtain ⟨hlo, hhi⟩ := ediv_two_pow_bounds (intNum n * intV3 n)
  have hD : (0 : Int) < 2 ^ intK n := by positivity
  have hDq : (1 : ℚ) ≤ 2 ^ intK n := one_le_pow₀ (by norm_num)
  have hfloor : intSqrt n * 2 ^ intK n ≤ intRec n := Int.ediv_mul_le _ hD.ne'
  have hceil : intRec n + 1 ≤ (intSqrt n + 1) * 2 ^ intK n := Int.lt_ediv_add_one_mul_self _ hD
  rw [intRec] at hfloor hceil
  qify at hlo hhi hfloor hceil
  rw [div_div, sub_lt_iff_lt_add, div_lt_iff₀ (by positivity), le_div_iff₀ (by positivity)]
  constructor <;> linarith

section Legal
variable {w : Word} (h : legalOperand w)
include h

/-- The exact value of the shifted root has a square within a millionth of the operand's. -/
theorem root_accurate :
    |(uint w * 2 ^ 31 : ℚ) - (intNum (uint w) * intV3 (uint w) / 2 ^ 30 / 2 ^ intK (uint w) : ℚ) ^ 2|
      ≤ uint w * 2 ^ 31 / 10 ^ 6 := by
  obtain ⟨hlo, hhi⟩ := intNum_range h
  have hquality := quality_last_estimate hlo hhi
  have hnum : (intNum (uint w) : ℚ) = uint w * (2 ^ intK (uint w)) ^ 2 := by
    rw [intNum]
    push_cast
    rw [← pow_mul, mul_comm (intK _) 2, pow_mul]
    norm_num
  have hsquare : (intNum (uint w) * intV3 (uint w) / 2 ^ 30 / 2 ^ intK (uint w) : ℚ) ^ 2 =
      uint w * 2 ^ 31 * quality (intNum (uint w)) (intV3 (uint w)) := by
    rw [quality]
    have hD : (2 ^ intK (uint w) : ℚ) ≠ 0 := by positivity
    generalize (2 ^ intK (uint w) : ℚ) = D at *
    rw [hnum]
    field_simp
  have hfactor : (uint w * 2 ^ 31 : ℚ) - uint w * 2 ^ 31 * quality (intNum (uint w)) (intV3 (uint w))
      = uint w * 2 ^ 31 * (1 - quality (intNum (uint w)) (intV3 (uint w))) := by ring
  rw [hsquare, hfactor, abs_mul, abs_of_nonneg (by positivity), div_eq_mul_one_div]
  exact mul_le_mul_of_nonneg_left hquality (by positivity)

/-- The test of the document over unbounded integers. -/
theorem intSqrt_accurate :
    10000000 * |intSqrt (uint w) ^ 2 - uint w * 2 ^ 31| < 420 * ((uint w : Int) * 2 ^ 31) := by
  have hpos : 1 ≤ uint w := by
    have := sint_of_legal h
    omega
  rcases lt_or_ge (uint w) 8 with hleast | hgreater
  · exact intSqrt_accurate_of_least _ hleast hpos
  · obtain ⟨hlo, hhi⟩ := intSqrt_bounds (uint w)
    have hroot := root_accurate h
    have hnonneg : (0 : ℚ) ≤ intNum (uint w) * intV3 (uint w) / 2 ^ 30 / 2 ^ intK (uint w) := by
      have : (0 : ℚ) ≤ intNum (uint w) * intV3 (uint w) := by
        exact_mod_cast le_trans (by positivity) (intNum_mul_intV3_range h).1
      positivity
    have hlarge : (8 : ℚ) ≤ uint w := by exact_mod_cast hgreater
    generalize (intNum (uint w) * intV3 (uint w) / 2 ^ 30 / 2 ^ intK (uint w) : ℚ) = r at *
    have hr : 131071 ≤ r := by
      have := (abs_le.1 hroot).2
      nlinarith
    exact_mod_cast square_accurate hroot hr hlo hhi

end Legal

/-- Settles O49: the test over unbounded integers, which the result of a legal operand equals. -/
theorem accuracyWithinEpsilon : Obligations.AccuracyWithinEpsilon := by
  intro w h
  rw [sint_opOut h, sint_of_legal h]
  exact intSqrt_accurate h

/-- The result of a legal operand is at least that of the operand 1: any other is accurate and has a greater root. -/
theorem le_sint_opOut {w : Word} (h : legalOperand w) : 46340 ≤ sint (opOut w) := by
  have hsame := sint_of_legal h
  have hnonneg : 0 ≤ sint (opOut w) := by
    rw [opOut, sint_asr (by decide)]
    obtain ⟨-, -, -, -, hpos, -⟩ := estimatesStayPositive w h
    exact Int.ediv_nonneg hpos.le (by positivity)
  rcases eq_or_lt_of_le (show 1 ≤ uint w by omega) with hone | hgreater
  · rw [sint_opOut h, ← hone, intSqrt_one]
  · have haccurate := accuracyWithinEpsilon w h
    have hlow := neg_le_abs (sint (opOut w) ^ 2 - sint w * 2 ^ 31)
    by_contra hlt
    have hsquare : sint (opOut w) ^ 2 ≤ 46339 ^ 2 := pow_le_pow_left₀ hnonneg (by omega) 2
    omega

/-- The result of a legal operand is below the greatest even word, for the root before the shift is even. -/
theorem sint_opOut_le {w : Word} (h : legalOperand w) : sint (opOut w) ≤ 2147483646 := by
  obtain ⟨-, -, -, -, hpos, -, -, -, heven⟩ := estimatesStayPositive w h
  have hlt := (sint_range (opRec w)).2
  rw [opOut, sint_asr (by decide)]
  have hshift := Int.ediv_le_self (2 ^ opK w) hpos.le
  omega

/-- Settles O48: the two paths of FixedSqrt, and the bounds of the result of a legal operand. -/
theorem statusAndResultBounds : Obligations.StatusAndResultBounds := by
  refine ⟨fun w => fixedSqrt_of_nonpos, fun w h => ?_⟩
  rw [fixedSqrt_of_legal h]
  exact ⟨rfl, le_sint_opOut h, sint_opOut_le h⟩

end Sys2Proof.Machine
end
